-- ==== Sys2Proof/Word.lean ====
section
/-! DEFINITION. The plain data every other file is written in: bytes, zone sets, fixed-size tables, the
three tally lines, and what a pin or a serial line can carry. -/

namespace Sys2Proof

/-- One byte of a port message. -/
abbrev Byte := BitVec 8

/-- A set of coupling zones, bit n for zone n (Table 11-2). -/
abbrev ZoneSet := BitVec 8

/-- The three tally sources, one per line TLY0, TLY1 and TLY2 (Table 6-1). -/
inductive Source where
  | main
  | sub1
  | sub2
  deriving DecidableEq, Repr

/-- What travels on a serial line in one bit time (R193). -/
inductive LineBit where
  | start
  | data (b : Bool)
  | stop
  deriving DecidableEq, Repr

/-- What the three-state SDO pin carries over one byte of a transaction (R192, Tables 11-6 and 11-7). -/
inductive SdoLevel where
  | highZ
  | driven (b : Byte)
  deriving DecidableEq, Repr

/-- A table of a fixed number of entries, numbered from 0. The size is carried with the rows, so no
operation can grow or shrink one. -/
structure Tab (n : Nat) (α : Type) where
  rows : List α
  size : rows.length = n
  deriving DecidableEq, Repr

/-- The table whose entries are all `x`. -/
def Tab.fill {α : Type} (n : Nat) (x : α) : Tab n α :=
  ⟨List.replicate n x, List.length_replicate⟩

/-- Entry `i`, or `d` where there is no entry `i`. -/
def Tab.get {n : Nat} {α : Type} (t : Tab n α) (i : Nat) (d : α) : α :=
  t.rows.getD i d

/-- Entry `i` replaced; nothing where there is no entry `i`. -/
def Tab.set {n : Nat} {α : Type} (t : Tab n α) (i : Nat) (x : α) : Tab n α :=
  ⟨t.rows.set i x, by rw [List.length_set, t.size]⟩

/-- Every entry replaced by `f` of its number and itself. -/
def Tab.mapIdx {n : Nat} {α β : Type} (f : Nat → α → β) (t : Tab n α) : Tab n β :=
  ⟨t.rows.mapIdx f, by rw [List.length_mapIdx, t.size]⟩

/-- The entries with their numbers, lowest first. -/
def Tab.entries {n : Nat} {α : Type} (t : Tab n α) : List (α × Nat) :=
  t.rows.zipIdx

end Sys2Proof
end

