-- ==== Sys2Proof/Config.lean ====
section
/-! DEFINITION. The values the spec leaves open, as constants with no body (log entries 4, 5 and 6):
nothing in Lean can evaluate them, so no statement can rest on a value of theirs. -/

namespace Sys2Proof

/-- FREE VALUE. How the body of a BAD_ARGUMENT response marks the length as the offending field: R181
says that it is marked and gives no number for it. -/
opaque Config.lengthMark : Byte

/-- FREE VALUE. The two bytes that stand for the candidate in a contributor's place of a verdict: R56
says "marked as the candidate" and gives no encoding. -/
opaque Config.candidateMark : Byte × Byte

/-- FREE VALUE. The order in which several TALKING keys of packs that lose their talk in one event are
ended (R148 names no order among them): the key of the lower rank first, the ranks being those of the
event's time on the timebase. -/
opaque Config.packKeyRank (now key : Nat) : Nat

end Sys2Proof
end

