-- ==== Sys2Proof/Syntax.lean ====
section
/-! DEFINITION. The commands of the part: one constructor of `Instr` per row of the opcode table.
A request carries its arguments as the host encodes them (Table 11-2): a number is the unsigned value
of its field, 255 (or 16777215 for a step) is the field's absent value, and a flag is on when it is not 0.
`WellFormed.lean` says which numbers fit their fields. -/

namespace Sys2Proof

/-- The body of a correctly framed request (R181, R192): the arguments, or a body whose length is not
the one the code calls for. -/
inductive ReqBody (α : Type) where
  | args (a : α)
  | badLength
  deriving DecidableEq, Repr

/-- A complete message on a serial line of a type the line receives (R193): its fields, or a message
whose length is not its type's, or one whose sum fails. -/
inductive LineBody (α : Type) where
  | fields (a : α)
  | badLength
  | badSum
  deriving DecidableEq, Repr

/-- One class table entry of LOAD PROFILE (Table 1-2, fields 11 to 18). -/
structure ClassArgs where
  halfWidth : Nat
  contributes : Nat
  deriving DecidableEq, Repr

/-- LOAD PROFILE, the eighteen fields of Table 1-2 in order. -/
structure ProfileArgs where
  spanLow : Nat
  spanHigh : Nat
  origin : Nat
  widthCode : Nat
  gcc : Nat
  g3 : Nat
  g5 : Nat
  im5 : Nat
  settle : Nat
  window : Nat
  classes : Tab 8 ClassArgs
  deriving DecidableEq, Repr

/-- A source and an input of it (FIND BINDING, UNBIND). -/
structure InputArgs where
  source : Nat
  input : Nat
  deriving DecidableEq, Repr

/-- LIST LINKS: bit n of the filter names the nth state of Table 2-2. -/
structure ListArgs where
  filter : BitVec 16
  start : Nat
  deriving DecidableEq, Repr

/-- SET LABEL. -/
structure LabelArgs where
  handle : Nat
  label : List Nat
  deriving DecidableEq, Repr

/-- SET POLICY. -/
structure PolicyArgs where
  handle : Nat
  policy : Nat
  deriving DecidableEq, Repr

/-- ADMIT (R65); step 16777215 is the pool marker. -/
structure AdmitArgs where
  kind : Nat
  cls : Nat
  zones : ZoneSet
  label : List Nat
  policy : Nat
  step : Nat
  deriving DecidableEq, Repr

/-- RETUNE (R69); step 16777215 is the pool marker. -/
structure RetuneArgs where
  handle : Nat
  step : Nat
  force : Nat
  deriving DecidableEq, Repr

/-- MOVE ZONES. -/
structure ZonesArgs where
  handle : Nat
  zones : ZoneSet
  deriving DecidableEq, Repr

/-- A handle and a flag (RETIRE, HOLD LIVE, SUPPRESS). -/
structure FlagArgs where
  handle : Nat
  on : Nat
  deriving DecidableEq, Repr

/-- SEED SPARE. -/
structure SpareArgs where
  step : Nat
  cls : Nat
  zones : ZoneSet
  deriving DecidableEq, Repr

/-- A handle and a step (ANSWER REFERRAL, the TUNED report). -/
structure HandleStep where
  handle : Nat
  step : Nat
  deriving DecidableEq, Repr

/-- The two bytes of a cascade field: target source and input (Table 11-2). -/
structure CascadeArgs where
  target : Nat
  input : Nat
  deriving DecidableEq, Repr

/-- LOAD TALLY MAP, in the order R110 names the fields. -/
structure MapArgs where
  present1 : Nat
  present2 : Nat
  cascade1 : CascadeArgs
  cascade2 : CascadeArgs
  live0 : Nat
  live1 : Nat
  live2 : Nat
  protectIso : Nat
  deriving DecidableEq, Repr

/-- BIND. -/
structure BindArgs where
  handle : Nat
  source : Nat
  input : Nat
  deriving DecidableEq, Repr

/-- DEFINE KEY; the origin is its kind and two bytes (Table 11-3). -/
structure KeyArgs where
  key : Nat
  originKind : Nat
  origin1 : Nat
  origin2 : Nat
  dest : Nat
  level : Nat
  type : Nat
  deriving DecidableEq, Repr

/-- DEFINE DEST. -/
structure DestArgs where
  dest : Nat
  kind : Nat
  target : Nat
  watch : Nat
  mode : Nat
  limit : Nat
  threshold : Nat
  rotation : Nat
  talkLimit : Nat
  deriving DecidableEq, Repr

/-- A destination and a link handle or none (SET TARGET, SET WATCH). -/
structure DestLink where
  dest : Nat
  handle : Nat
  deriving DecidableEq, Repr

/-- STAGE DOWN. -/
structure DownArgs where
  slot : Nat
  dest : Nat
  deriving DecidableEq, Repr

/-- STAGE LISTEN; bits 12 to 15 of the mask are ignored. -/
structure ListenArgs where
  handle : Nat
  mask : BitVec 16
  deriving DecidableEq, Repr

/-- STAGE UP. -/
structure UpArgs where
  handle : Nat
  up : Nat
  deriving DecidableEq, Repr

/-- READ PLAN. -/
structure PlanArgs where
  which : Nat
  start : Nat
  deriving DecidableEq, Repr

/-- The INTERFERENCE report. -/
structure InterferenceArgs where
  handle : Nat
  severity : Nat
  deriving DecidableEq, Repr

/-- The KEY report; direction 1 is down, 0 is up. -/
structure PackKeyArgs where
  handle : Nat
  packKey : Nat
  direction : Nat
  deriving DecidableEq, Repr

/-- A panel event. -/
structure PanelArgs where
  panel : Nat
  button : Nat
  deriving DecidableEq, Repr

/-- The entries of a tally frame. -/
structure FrameArgs where
  program : List Nat
  preview : List Nat
  deriving DecidableEq, Repr

/-- The commands. The first 48 are the requests of Table 10-3 in its order. -/
inductive Instr where
  | loadProfile (b : ReqBody ProfileArgs)
  | readProfile (b : ReqBody Unit)
  | block (b : ReqBody Nat)
  | unblock (b : ReqBody Nat)
  | queryLink (b : ReqBody Nat)
  | findLabel (b : ReqBody (List Nat))
  | findFrequency (b : ReqBody Nat)
  | findBinding (b : ReqBody InputArgs)
  | listLinks (b : ReqBody ListArgs)
  | setLabel (b : ReqBody LabelArgs)
  | setPolicy (b : ReqBody PolicyArgs)
  | admitLink (b : ReqBody AdmitArgs)
  | retune (b : ReqBody RetuneArgs)
  | moveZones (b : ReqBody ZonesArgs)
  | cancelRetune (b : ReqBody Nat)
  | tuneNow (b : ReqBody Nat)
  | retire (b : ReqBody FlagArgs)
  | discard (b : ReqBody Nat)
  | seedSpare (b : ReqBody SpareArgs)
  | dropSpare (b : ReqBody Nat)
  | readPool (b : ReqBody Nat)
  | setPoolThreshold (b : ReqBody Nat)
  | answerReferral (b : ReqBody HandleStep)
  | declineReferral (b : ReqBody Nat)
  | loadTallyMap (b : ReqBody MapArgs)
  | clearSource (b : ReqBody Nat)
  | bind (b : ReqBody BindArgs)
  | unbind (b : ReqBody InputArgs)
  | holdLive (b : ReqBody FlagArgs)
  | suppress (b : ReqBody FlagArgs)
  | readTally (b : ReqBody Unit)
  | defineKey (b : ReqBody KeyArgs)
  | deleteKey (b : ReqBody Nat)
  | defineDest (b : ReqBody DestArgs)
  | setTarget (b : ReqBody DestLink)
  | setWatch (b : ReqBody DestLink)
  | deleteDest (b : ReqBody Nat)
  | setLast (b : ReqBody Nat)
  | clearTalk (b : ReqBody Unit)
  | queryDest (b : ReqBody Nat)
  | queryKey (b : ReqBody Nat)
  | stageDown (b : ReqBody DownArgs)
  | stageListen (b : ReqBody ListenArgs)
  | stageUp (b : ReqBody UpArgs)
  | commit (b : ReqBody Unit)
  | discardPlan (b : ReqBody Unit)
  | readPlan (b : ReqBody PlanArgs)
  | readSummary (b : ReqBody Unit)
  /-- A correctly framed request whose code is not 0 to 48 (R181). -/
  | unrecognisedRequest (code : Nat)
  /-- A request transaction of these complete bytes and `bits` bits of a further one that is badly
  framed (R180). -/
  | framingError (bytes : List Byte) (bits : Nat)
  /-- The COLLECT code byte completes (R183). -/
  | collect
  /-- SEL# rises after a collect in which the host clocked `clocked` bytes after the code byte (R184). -/
  | collectEnd (clocked : Nat)
  | checkCompletion
  | trialEnd
  | sweepUnitCompletion
  | settleTimerExpiry (handle : Nat)
  | releaseTimerExpiry (handle : Nat)
  | referralTimerExpiry (handle : Nat)
  | tuned (b : LineBody HandleStep)
  | muted (b : LineBody Nat)
  | interference (b : LineBody InterferenceArgs)
  | carrierLoss (b : LineBody Nat)
  | carrierBack (b : LineBody Nat)
  | key (b : LineBody PackKeyArgs)
  | radioReceiveTimeout
  | ctsAsserted
  | radioMessageComplete
  | press (b : LineBody PanelArgs)
  | release (b : LineBody PanelArgs)
  | matrixReceiveTimeout
  | routeComplete
  | tallyFrame (line : Source) (b : LineBody FrameArgs)
  | tallyReceiveTimeout (line : Source)
  | livenessExpiry (source : Source)
  | talkDeadlineExpiry (key : Nat)
  | frameMark
  | hardwareReset
  | ctsWithdrawn
  /-- RESET# rises, with SEL# found low or high (R194). -/
  | resetRisingEdge (selLow : Bool)
  | radioUnknownReportType (type : Nat)
  | matrixUnknownEventType (type : Nat)
  | tallyUnknownMessageType (line : Source) (type : Nat)
  deriving DecidableEq, Repr

end Sys2Proof
end

