-- ==== Sys2Proof/Decode.lean ====
section
/-! DEFINITION. From bits and bytes to commands: what a request transaction and a complete line message
stand for (R180, R181, R192, R193, Tables 11-1, 11-2 and 11-5). The opcode table gives no row any bits, so
`decodeTableWord` finds no command in a word. -/

namespace Sys2Proof

/-- The table's rows have no bits: no word spells a command. -/
def decodeTableWord (_nbits _w : Nat) : Option Instr := none

/-! ### Fields (Table 11-2) -/

/-- A reader takes a value from the front of a body and leaves the rest; it fails where bytes run out. -/
abbrev Reader (α : Type) := List Byte → Option (α × List Byte)

/-- A value read without a byte. -/
def Reader.pure {α : Type} (x : α) : Reader α := fun l => some (x, l)

/-- One reader after another. -/
def Reader.andThen {α β : Type} (r : Reader α) (f : α → Reader β) : Reader β := fun l =>
  match r l with
  | some (x, rest) => f x rest
  | none => none

/-- A value read and changed. -/
def Reader.map {α β : Type} (f : α → β) (r : Reader α) : Reader β := r.andThen fun x => Reader.pure (f x)

/-- One byte. -/
def rByte : Reader Nat
  | b :: rest => some (b.toNat, rest)
  | [] => none

/-- Two bytes, the most significant first. -/
def rWord : Reader Nat := rByte.andThen fun a => rByte.map fun b => 256 * a + b

/-- Three bytes, the most significant first. -/
def rStep : Reader Nat := rByte.andThen fun a => rWord.map fun b => 65536 * a + b

/-- A zone set. -/
def rZones : Reader ZoneSet := rByte.map (BitVec.ofNat 8)

/-- A listen mask or a state filter. -/
def rMask : Reader (BitVec 16) := rWord.map (BitVec.ofNat 16)

/-- `n` values. -/
def rMany {α : Type} (r : Reader α) : Nat → Reader (List α)
  | 0 => Reader.pure []
  | n + 1 => r.andThen fun x => (rMany r n).map fun xs => x :: xs

/-- A count and as many bytes: a label, or the entries of a tally frame's list. -/
def rCounted : Reader (List Nat) := rByte.andThen fun n => rMany rByte n

/-! ### The bodies of requests (R192) -/

def rClass : Reader ClassArgs := rWord.andThen fun h => rByte.map fun c => ⟨h, c⟩

/-- The eight class table entries. -/
def rClasses : Reader (Tab 8 ClassArgs) :=
  (rMany rClass 8).map fun l => (Tab.fill 8 ()).mapIdx fun i _ => l.getD i ⟨0, 0⟩

def rProfile : Reader ProfileArgs :=
  rStep.andThen fun lo => rStep.andThen fun hi => rStep.andThen fun o => rByte.andThen fun w =>
  rWord.andThen fun gcc => rWord.andThen fun g3 => rWord.andThen fun g5 => rByte.andThen fun im5 =>
  rByte.andThen fun st => rByte.andThen fun win => rClasses.map fun cs =>
    ⟨lo, hi, o, w, gcc, g3, g5, im5, st, win, cs⟩

def rInput : Reader InputArgs := rByte.andThen fun x => rByte.map fun i => ⟨x, i⟩

def rList : Reader ListArgs := rMask.andThen fun f => rByte.map fun s => ⟨f, s⟩

def rLabelArgs : Reader LabelArgs := rByte.andThen fun h => rCounted.map fun l => ⟨h, l⟩

def rPolicy : Reader PolicyArgs := rByte.andThen fun h => rByte.map fun p => ⟨h, p⟩

def rAdmit : Reader AdmitArgs :=
  rByte.andThen fun k => rByte.andThen fun c => rZones.andThen fun z => rCounted.andThen fun l =>
  rByte.andThen fun p => rStep.map fun f => ⟨k, c, z, l, p, f⟩

def rRetune : Reader RetuneArgs :=
  rByte.andThen fun h => rStep.andThen fun f => rByte.map fun x => ⟨h, f, x⟩

def rZonesArgs : Reader ZonesArgs := rByte.andThen fun h => rZones.map fun z => ⟨h, z⟩

def rFlag : Reader FlagArgs := rByte.andThen fun h => rByte.map fun x => ⟨h, x⟩

def rSpare : Reader SpareArgs :=
  rStep.andThen fun f => rByte.andThen fun c => rZones.map fun z => ⟨f, c, z⟩

def rHandleStep : Reader HandleStep := rByte.andThen fun h => rStep.map fun f => ⟨h, f⟩

def rCascade : Reader CascadeArgs := rByte.andThen fun t => rByte.map fun i => ⟨t, i⟩

def rMap : Reader MapArgs :=
  rByte.andThen fun p1 => rByte.andThen fun p2 => rCascade.andThen fun c1 => rCascade.andThen fun c2 =>
  rWord.andThen fun l0 => rWord.andThen fun l1 => rWord.andThen fun l2 => rByte.map fun iso =>
    ⟨p1, p2, c1, c2, l0, l1, l2, iso⟩

def rBind : Reader BindArgs :=
  rByte.andThen fun h => rByte.andThen fun x => rByte.map fun i => ⟨h, x, i⟩

def rKey : Reader KeyArgs :=
  rByte.andThen fun k => rByte.andThen fun o => rByte.andThen fun a => rByte.andThen fun b =>
  rByte.andThen fun d => rByte.andThen fun l => rByte.map fun t => ⟨k, o, a, b, d, l, t⟩

def rDest : Reader DestArgs :=
  rByte.andThen fun d => rByte.andThen fun k => rByte.andThen fun t => rByte.andThen fun w =>
  rByte.andThen fun m => rByte.andThen fun l => rByte.andThen fun th => rByte.andThen fun r =>
  rWord.map fun tl => ⟨d, k, t, w, m, l, th, r, tl⟩

def rDestLink : Reader DestLink := rByte.andThen fun d => rByte.map fun h => ⟨d, h⟩

def rDown : Reader DownArgs := rByte.andThen fun s => rByte.map fun d => ⟨s, d⟩

def rListen : Reader ListenArgs := rByte.andThen fun h => rMask.map fun m => ⟨h, m⟩

def rUp : Reader UpArgs := rByte.andThen fun h => rByte.map fun u => ⟨h, u⟩

def rPlan : Reader PlanArgs := rByte.andThen fun w => rByte.map fun s => ⟨w, s⟩

/-- The body of a request: its arguments where its length is the sum of the widths of its fields (R192). -/
def reqBody {α : Type} (r : Reader α) (body : List Byte) : ReqBody α :=
  match r body with
  | some (x, []) => .args x
  | some (_, _ :: _) => .badLength
  | none => .badLength

/-- The command of a correctly framed request (Table 10-3; the codes of Table 11-1). -/
def requestCommand (code : Nat) (b : List Byte) : Instr :=
  match code with
  | 1 => .loadProfile (reqBody rProfile b)
  | 2 => .readProfile (reqBody (Reader.pure ()) b)
  | 3 => .block (reqBody rByte b)
  | 4 => .unblock (reqBody rByte b)
  | 5 => .queryLink (reqBody rByte b)
  | 6 => .findLabel (reqBody rCounted b)
  | 7 => .findFrequency (reqBody rStep b)
  | 8 => .findBinding (reqBody rInput b)
  | 9 => .listLinks (reqBody rList b)
  | 10 => .setLabel (reqBody rLabelArgs b)
  | 11 => .setPolicy (reqBody rPolicy b)
  | 12 => .admitLink (reqBody rAdmit b)
  | 13 => .retune (reqBody rRetune b)
  | 14 => .moveZones (reqBody rZonesArgs b)
  | 15 => .cancelRetune (reqBody rByte b)
  | 16 => .tuneNow (reqBody rByte b)
  | 17 => .retire (reqBody rFlag b)
  | 18 => .discard (reqBody rByte b)
  | 19 => .seedSpare (reqBody rSpare b)
  | 20 => .dropSpare (reqBody rByte b)
  | 21 => .readPool (reqBody rByte b)
  | 22 => .setPoolThreshold (reqBody rByte b)
  | 23 => .answerReferral (reqBody rHandleStep b)
  | 24 => .declineReferral (reqBody rByte b)
  | 25 => .loadTallyMap (reqBody rMap b)
  | 26 => .clearSource (reqBody rByte b)
  | 27 => .bind (reqBody rBind b)
  | 28 => .unbind (reqBody rInput b)
  | 29 => .holdLive (reqBody rFlag b)
  | 30 => .suppress (reqBody rFlag b)
  | 31 => .readTally (reqBody (Reader.pure ()) b)
  | 32 => .defineKey (reqBody rKey b)
  | 33 => .deleteKey (reqBody rByte b)
  | 34 => .defineDest (reqBody rDest b)
  | 35 => .setTarget (reqBody rDestLink b)
  | 36 => .setWatch (reqBody rDestLink b)
  | 37 => .deleteDest (reqBody rByte b)
  | 38 => .setLast (reqBody rByte b)
  | 39 => .clearTalk (reqBody (Reader.pure ()) b)
  | 40 => .queryDest (reqBody rByte b)
  | 41 => .queryKey (reqBody rByte b)
  | 42 => .stageDown (reqBody rDown b)
  | 43 => .stageListen (reqBody rListen b)
  | 44 => .stageUp (reqBody rUp b)
  | 45 => .commit (reqBody (Reader.pure ()) b)
  | 46 => .discardPlan (reqBody (Reader.pure ()) b)
  | 47 => .readPlan (reqBody rPlan b)
  | 48 => .readSummary (reqBody (Reader.pure ()) b)
  | n => .unrecognisedRequest n

/-- The command a transaction gives when SEL# rises after these complete bytes and `bits` bits of a further
one (R180): none where no byte is complete. A transaction whose first byte is COLLECT's gives COLLECT when
that byte completes and COLLECT END here. -/
def transactionCommand (bytes : List Byte) (bits : Nat) : Option Instr :=
  match bytes with
  | [] => none
  | [c] => some (if c = 0 then .collectEnd 0 else .framingError bytes bits)
  | c :: n :: body =>
    some <|
      if c = 0 then .collectEnd (body.length + 1)
      else if bits = 0 ∧ n.toNat ≤ 250 ∧ body.length = n.toNat then requestCommand c.toNat body
      else .framingError bytes bits

/-- The byte of eight bits, the most significant first. -/
def byteOfBits (bits : List Bool) : Byte := BitVec.ofNat 8 (bits.foldl (fun n b => 2 * n + b.toNat) 0)

/-- What a transaction's bits on SDI complete: the bytes, each most significant bit first, and the number of
bits of a further one (R180). -/
def clockedBytes : List Bool → List Byte × Nat
  | a :: b :: c :: d :: e :: f :: g :: h :: rest =>
    (byteOfBits [a, b, c, d, e, f, g, h] :: (clockedBytes rest).1, (clockedBytes rest).2)
  | l => ([], l.length)

/-- The command a transaction of these bits on SDI gives when SEL# rises. -/
def clockedCommand (bits : List Bool) : Option Instr :=
  transactionCommand (clockedBytes bits).1 (clockedBytes bits).2

/-! ### Line messages (R193, Table 11-5) -/

/-- The value of a data bit. -/
def LineBit.value : LineBit → Option Bool
  | .data b => some b
  | .start => none
  | .stop => none

/-- The byte of ten bit times on a serial line: a start bit, eight data bits, least significant first, and a
stop bit, with no parity; none where they are not so (R193). -/
def serialByteOf : List LineBit → Option Byte
  | .start :: rest =>
    if rest.drop 8 = [.stop] then ((rest.take 8).mapM LineBit.value).map fun l => byteOfBits l.reverse
    else none
  | _ => none

/-- The bytes of a stretch of bit times, ten to a byte. -/
def serialBytesOf (bits : List LineBit) : Option (List Byte) :=
  if bits.length % 10 = 0 then
    (List.range (bits.length / 10)).mapM fun i => serialByteOf ((bits.drop (10 * i)).take 10)
  else none

/-- A message as a receiver completes it: its type, its body, and whether its sum is right. -/
structure LineMsg where
  type : Nat
  body : List Byte
  sumOk : Bool
  deriving DecidableEq, Repr

/-- The message these bytes complete: type, a two-byte length, as many body bytes, a check byte. -/
def lineMsg (m : List Byte) : Option LineMsg :=
  match m with
  | t :: a :: b :: rest =>
    if rest.length = 256 * a.toNat + b.toNat + 1 then
      some ⟨t.toNat, rest.take (256 * a.toNat + b.toNat), m.foldl (· + ·) 0 == 0⟩
    else none
  | _ => none

/-- The message these bit times of a serial line complete. -/
def serialMsg (bits : List LineBit) : Option LineMsg := (serialBytesOf bits).bind lineMsg

/-- The fields of a message of a type the line receives. -/
def lineBody {α : Type} (r : Reader α) (m : LineMsg) : LineBody α :=
  if m.sumOk then
    match r m.body with
    | some (x, []) => .fields x
    | some (_, _ :: _) => .badLength
    | none => .badLength
  else .badSum

/-- A complete message on RRX. -/
def radioCommand (m : LineMsg) : Instr :=
  match m.type with
  | 17 => .tuned (lineBody rHandleStep m)
  | 18 => .muted (lineBody rByte m)
  | 19 => .interference (lineBody (rByte.andThen fun h => rByte.map fun v => ⟨h, v⟩) m)
  | 20 => .carrierLoss (lineBody rByte m)
  | 21 => .carrierBack (lineBody rByte m)
  | 22 => .key (lineBody (rByte.andThen fun h => rByte.andThen fun k => rByte.map fun d => ⟨h, k, d⟩) m)
  | t => .radioUnknownReportType t

/-- The fields of a panel event. -/
def rPanel : Reader PanelArgs := rByte.andThen fun p => rByte.map fun b => ⟨p, b⟩

/-- A complete message on MRX. -/
def matrixCommand (m : LineMsg) : Instr :=
  match m.type with
  | 33 => .press (lineBody rPanel m)
  | 34 => .release (lineBody rPanel m)
  | t => .matrixUnknownEventType t

/-- The fields of a tally frame. -/
def rFrame : Reader FrameArgs := rCounted.andThen fun p => rCounted.map fun q => ⟨p, q⟩

/-- A complete message on a tally line. -/
def tallyCommand (line : Source) (m : LineMsg) : Instr :=
  match m.type with
  | 49 => .tallyFrame line (lineBody rFrame m)
  | t => .tallyUnknownMessageType line t

end Sys2Proof
end

