-- ==== Sys2Proof/Machine/State.lean ====
section
/-! DEFINITION. The state of the part, as plain data: one record per block of Table 0-1, with the pins,
the timebase and the queue of waiting commands beside them; and the state after a hardware reset. -/

namespace Sys2Proof.Machine

open Sys2Proof

/-! ### Link records (Table 2-1) -/

/-- The ten link states of Table 2-2. -/
inductive LinkState where
  | free | checking | active | recheck | retuneWait | settling | reverting | referred | releasing | lost
  deriving DecidableEq, Repr

/-- The link kinds. -/
inductive LinkKind where
  | camera | mic | iem | beltpack | base
  deriving DecidableEq, Repr

/-- The interference policies. -/
inductive Policy where
  | auto | refer | none
  deriving DecidableEq, Repr

/-- The job kinds of Table 3-1. `admission` and `admissionPool` are ADMIT and ADMIT-POOL. -/
inductive JobKind where
  | admission | admissionPool | retune | retunePool | auto | move
  deriving DecidableEq, Repr

/-- An order owed to the rack (R25). -/
inductive Order where
  | tune (step : Nat)
  | mute
  deriving DecidableEq, Repr

/-- The kinds of a link's timer (R26). -/
inductive TimerKind where
  | settle | release | referral
  deriving DecidableEq, Repr

/-- A running timer: its kind and its deadline on the 1 ms timebase (R26). -/
structure Timer where
  kind : TimerKind
  deadline : Nat
  deriving DecidableEq, Repr

/-- Tally values, the lowest first (R119). -/
inductive Tally where
  | none | iso | pvw | pgm
  deriving DecidableEq, Repr

/-- Lamp colours. -/
inductive Colour where
  | off | red | green | yellow
  deriving DecidableEq, Repr

/-- A lamp value: colour and flash (R126). -/
structure Lamp where
  colour : Colour
  flash : Bool
  deriving DecidableEq, Repr

/-- OFF, steady. -/
def Lamp.dark : Lamp := ⟨.off, false⟩

/-- A binding of a link to an input of a source. -/
structure Binding where
  source : Source
  input : Nat
  deriving DecidableEq, Repr

/-- A link record. The zone set is empty and the label is [] while they are absent (Table 11-2). -/
structure Link where
  state : LinkState
  kind : Option LinkKind
  cls : Option Nat
  zones : ZoneSet
  label : List Nat
  policy : Option Policy
  carrier : Option Nat
  target : Option Nat
  job : Option JobKind
  forced : Bool
  tries : Nat
  order : Option Order
  lampOwed : Bool
  timer : Option Timer
  interference : Nat
  signalLost : Bool
  bindings : List Binding
  tally : Tally
  stale : Bool
  suppress : Bool
  holdLive : Bool
  lastLamp : Lamp
  deriving DecidableEq, Repr

/-- A FREE record (R18). -/
def Link.free : Link where
  state := .free
  kind := none
  cls := none
  zones := 0
  label := []
  policy := none
  carrier := none
  target := none
  job := none
  forced := false
  tries := 0
  order := none
  lampOwed := false
  timer := none
  interference := 0
  signalLost := false
  bindings := []
  tally := .none
  stale := false
  suppress := false
  holdLive := false
  lastLamp := Lamp.dark

/-! ### The Coordination Engine -/

/-- A class table entry (1.4). -/
structure ClassEntry where
  halfWidth : Nat
  contributes : Bool
  deriving DecidableEq, Repr

/-- The Venue Profile as stored (Table 1-2, R4). -/
structure Profile where
  spanLow : Nat
  spanHigh : Nat
  origin : Nat
  widthCode : Nat
  gcc : Nat
  g3 : Nat
  g5 : Nat
  im5 : Bool
  settle : Nat
  window : Nat
  classes : Tab 8 ClassEntry
  deriving DecidableEq, Repr

/-- What names a carrier in a term: the candidate, or a held carrier by its key (R20, R56). -/
inductive TermKey where
  | candidate
  | held (handle ordinal : Nat)
  deriving DecidableEq, Repr

/-- A carrier as a check meets it (R45, R46): the candidate, or a member of the occupied set, with its
half-width and contributes flag as they stood. A sweep unit's candidate belongs to no link. -/
structure Party where
  key : TermKey
  link : Option Nat
  step : Nat
  half : Nat
  contributes : Bool
  zones : ZoneSet
  deriving DecidableEq, Repr

/-- The tests that form terms (Table 3-2, tests 3 to 9). -/
inductive Test where
  | spacing | im32V | im33V | im5V | im32C | im33C | im5C
  deriving DecidableEq, Repr

/-- A term as a verdict names it: its test and its keys, the contributors in written order and then the
victim where there is one (R56). -/
structure TermRef where
  test : Test
  keys : List TermKey
  deriving DecidableEq, Repr

/-- The edges of the SPAN test. -/
inductive Edge where
  | low | high
  deriving DecidableEq, Repr

/-- What a FAIL found (R56). -/
inductive FailDetail where
  | span (edge : Edge) (step : Nat)
  | blocked (channel : Nat)
  | term (t : TermRef)
  deriving DecidableEq, Repr

/-- The verdict of a job (R56, R57, R60). A PASS at an unbounded margin names no term. -/
inductive Verdict where
  | pass (step margin : Nat) (term : Option TermRef)
  | fail (step : Nat) (detail : FailDetail)
  | noSpare (trials : Nat)
  deriving DecidableEq, Repr

/-- A check job (R39). No candidate step is the pool marker. -/
structure Job where
  kind : JobKind
  handle : Nat
  step : Option Nat
  cls : Nat
  zones : ZoneSet
  forced : Bool
  void : Bool
  deriving DecidableEq, Repr

/-- What the engine runs (section 3.2). A running job is the head of the Check Queue; `occupied` is the
occupied set fixed at the start (R46), `trial` the slot of the spare under trial and `failures` the
trials that failed (R60). A sweep unit keeps its candidate and its slot (R61). -/
inductive Work where
  | idle
  | job (occupied : List Party) (trial : Option Nat) (failures : Nat)
  | sweep (occupied : List Party) (slot : Nat) (candidate : Party)
  deriving DecidableEq, Repr

/-- The Coordination Engine: Venue Profile, Blocked-Channel Map, Check Queue (oldest first) and work. -/
structure Engine where
  profile : Option Profile
  blocked : Tab 96 Bool
  queue : List Job
  work : Work
  deriving DecidableEq, Repr

/-! ### The Spare Pool (R91) -/

/-- Spare statuses (Table 5-1). -/
inductive SpareStatus where
  | unchecked | clear | spoiled
  deriving DecidableEq, Repr

/-- What is judging a spare. -/
inductive InUse where
  | none | trial | sweep
  deriving DecidableEq, Repr

/-- A spare. -/
structure Spare where
  step : Nat
  cls : Nat
  zones : ZoneSet
  status : SpareStatus
  margin : Option Nat
  inUse : InUse
  deriving DecidableEq, Repr

/-- The Spare Pool. -/
structure Pool where
  slots : Tab 32 (Option Spare)
  threshold : Nat
  armed : Bool
  sweepWanted : Bool
  sweepPos : Nat
  deriving DecidableEq, Repr

/-! ### The Tally Resolver -/

/-- Where a present subsidiary's output goes (R110). -/
inductive Cascade where
  | standalone
  | into (target : Source) (input : Nat)
  deriving DecidableEq, Repr

/-- The Tally Map: an absent subsidiary has no cascade; a liveness is a count of 10 ms units, 0 for off
(R110, R111). -/
structure TallyMap where
  cascade1 : Option Cascade
  cascade2 : Option Cascade
  live0 : Nat
  live1 : Nat
  live2 : Nat
  protectIso : Bool
  deriving DecidableEq, Repr

/-- Source states (R113, R130). -/
inductive SrcState where
  | absent | awaiting | live | stale
  deriving DecidableEq, Repr

/-- One tally source: its lists in ascending input order and the deadline of its liveness timer. -/
structure Src where
  state : SrcState
  program : List Nat
  preview : List Nat
  deadline : Option Nat
  deriving DecidableEq, Repr

/-- A source that is absent (R110). -/
def Src.absent : Src := ⟨.absent, [], [], none⟩

/-- A present source that has sent no frame (R112, R116). -/
def Src.awaiting : Src := ⟨.awaiting, [], [], none⟩

/-- The Tally Resolver; the tally fields of a link stand in its record (section 2.1). -/
structure TallyBlock where
  map : Option TallyMap
  src0 : Src
  src1 : Src
  src2 : Src
  deriving DecidableEq, Repr

/-! ### The Talk Arbiter -/

/-- The button that drives a key (Table 7-1). -/
inductive Origin where
  | panel (panel button : Nat)
  | pack (handle packKey : Nat)
  deriving DecidableEq, Repr

/-- Key types. -/
inductive KeyType where
  | momentary | latch
  deriving DecidableEq, Repr

/-- Key states (R131). -/
inductive KeyState where
  | idle | waiting | talking | disabled
  deriving DecidableEq, Repr

/-- A defined key. Its request place is its place in the request order of its destination (R141). -/
structure Key where
  origin : Origin
  dest : Nat
  level : Nat
  type : KeyType
  state : KeyState
  deadline : Option Nat
  deriving DecidableEq, Repr

/-- Destination kinds. -/
inductive DestKind where
  | ifb | panel | group
  deriving DecidableEq, Repr

/-- Arbitration modes (R145). -/
inductive Mode where
  | nested | level | conference
  deriving DecidableEq, Repr

/-- A defined destination (Table 7-2); the talk limit is in seconds, 0 for none. -/
structure Dest where
  kind : DestKind
  target : Option Nat
  watch : Option Nat
  mode : Mode
  limit : Nat
  threshold : Option Nat
  rotation : Bool
  talkLimit : Nat
  talking : List Nat
  waiting : List Nat
  requests : List Nat
  rings : Tab 8 (List Nat)
  routed : Bool
  restricted : Bool
  deriving DecidableEq, Repr

/-- The Key Table and the Destination Table. -/
structure Talk where
  keys : Tab 96 (Option Key)
  dests : Tab 32 (Option Dest)
  deriving DecidableEq, Repr

/-! ### The Frame Plan (R157, R158) -/

/-- A pack entry of a plan. -/
structure Pack where
  handle : Nat
  listen : BitVec 12
  up : Option Nat
  deriving DecidableEq, Repr

/-- A plan: its downstream slots and its pack entries in ascending handle order. -/
structure Plan where
  down : Tab 12 (Option Nat)
  packs : List Pack
  deriving DecidableEq, Repr

/-- A plan that names nothing. -/
def Plan.empty : Plan := ⟨Tab.fill 12 none, []⟩

/-- Plan states. -/
inductive PlanState where
  | idle | commitWait
  deriving DecidableEq, Repr

/-- The two plans, the plan state and the plan number, which returns to 0 after 65535. -/
structure Plans where
  pending : Plan
  active : Plan
  state : PlanState
  number : BitVec 16
  deriving DecidableEq, Repr

/-! ### The Radio Port and the Matrix Port -/

/-- A message to the rack, fixed when it begins (R169, R172). -/
inductive RackMsg where
  | tune (handle step cls : Nat)
  | mute (handle : Nat)
  | lamp (handle : Nat) (value : Lamp)
  | plan (number : BitVec 16) (plan : Plan)
  deriving DecidableEq, Repr

/-- The Radio Port (R168): `sending` is the message leaving on RTX, `received` the bytes of the message
arriving on RRX, `cts` the level of the CTS input. -/
structure Radio where
  planOwed : Bool
  scan : Nat
  sending : Option RackMsg
  received : List Byte
  cts : Bool
  deriving DecidableEq, Repr

/-- A ROUTE: a destination and its talking keys with their origins, oldest grant first (R178). -/
structure Route where
  dest : Nat
  keys : List (Nat × Origin)
  deriving DecidableEq, Repr

/-- The Matrix Port (R176). -/
structure Matrix where
  owed : Tab 32 Bool
  scan : Nat
  sending : Option Route
  received : List Byte
  deriving DecidableEq, Repr

/-! ### The Control Port (Table 10-1) -/

/-- The response codes, in the order of Table 10-4. -/
inductive Status where
  | ok | queued | notConfigured | unknownRequest | badArgument | noLink | busy | onAir | queueFull
  | tableFull | duplicate | conflict | tooLate | noReferral | notEmpty
  deriving DecidableEq, Repr

/-- The offences COMMIT looks for, with what the response names (R161). -/
inductive Offence where
  | destKind (slot dest : Nat)
  | destRepeated (lower slot dest : Nat)
  | packKind (handle : Nat)
  | packState (handle : Nat) (state : LinkState)
  | upShared (up lower handle : Nat)
  deriving DecidableEq, Repr

/-- The QUERY LINK report (R34): the record, and what is computed for it. -/
structure LinkReport where
  handle : Nat
  link : Link
  carrierHeld : Bool
  targetHeld : Bool
  remaining : Option Nat
  onAir : Bool
  deriving DecidableEq, Repr

/-- The READ POOL report (R94). -/
structure PoolReport where
  threshold : Nat
  armed : Bool
  sweepWanted : Bool
  clear : Nat
  unchecked : Nat
  spoiled : Nat
  free : Nat
  entries : List (Nat × Spare)
  next : Option Nat
  deriving DecidableEq, Repr

/-- One source in the READ TALLY report (R130): its state and, unless it is absent, the time remaining
on its timer and its lists. -/
structure SrcReport where
  state : SrcState
  remaining : Option Nat
  program : List Nat
  preview : List Nat
  deriving DecidableEq, Repr

/-- The QUERY DEST report of a defined destination (R155). -/
structure DestReport where
  dest : Dest
  talking : List (Nat × Option Nat)
  ringSizes : List Nat
  deriving DecidableEq, Repr

/-- The QUERY KEY report of a defined key (R156). -/
structure KeyReport where
  key : Key
  requestPlace : Option Nat
  ringPlace : Nat
  remaining : Option Nat
  deriving DecidableEq, Repr

/-- The READ PLAN report (R167). -/
structure PlanReport where
  state : PlanState
  number : BitVec 16
  down : Tab 12 (Option Nat)
  total : Nat
  entries : List Pack
  next : Option Nat
  deriving DecidableEq, Repr

/-- The READ SUMMARY report (R190); the link counts are in the order of Table 2-2. -/
structure SummaryReport where
  configured : Bool
  carriers : Nat
  links : List Nat
  queueDepth : Nat
  clearSpares : Nat
  otherSpares : Nat
  noticeDepth : Nat
  sources : List SrcState
  planState : PlanState
  planOwed : Bool
  cts : Bool
  noticesLost : Bool
  portError : Bool
  deriving DecidableEq, Repr

/-- The bodies of responses. -/
inductive RespBody where
  | empty
  /-- BAD_ARGUMENT, the length being the offending field (R181). -/
  | lengthField
  /-- BAD_ARGUMENT to LOAD PROFILE: the offending field of Table 1-2 (R3). -/
  | fieldNumber (n : Nat)
  | profile (p : Profile)
  | profileMap (p : Profile) (blocked : List Nat)
  /-- CONFLICT to BLOCK: the lowest touching carrier and its step (R15). -/
  | carrierAt (handle ordinal step : Nat)
  | handle (h : Nat)
  | link (r : LinkReport)
  | frequency (total : Nat) (first : List Nat)
  | links (handles : List Nat) (next : Option Nat)
  | slot (n : Nat)
  | pool (r : PoolReport)
  | threshold (n : Nat)
  | tallyMap (m : TallyMap)
  | tally (m : Option TallyMap) (sources : List SrcReport)
  | keyId (k : Nat)
  /-- The fields of a destination as stored (R135). -/
  | destFields (d : Dest)
  | dest (id : Nat) (r : Option DestReport) (routeOwed : Bool)
  | key (id : Nat) (r : Option KeyReport)
  | offence (o : Offence)
  | planNumber (n : BitVec 16)
  | plan (r : PlanReport)
  | summary (r : SummaryReport)
  deriving DecidableEq, Repr

/-- A response: the code of its request, a status and a body (R182). -/
structure Response where
  code : Nat
  status : Status
  body : RespBody
  deriving DecidableEq, Repr

/-- Why a report was handed to the host (Table 5-3): with the severity, or the trials the AUTO job made
(R106). -/
inductive Referral where
  | policy (severity : Nat)
  | queue (severity : Nat)
  | pool (trials : Nat)
  deriving DecidableEq, Repr

/-- The notices, in the order of Table 10-5, with the fields their rules name. -/
inductive Notice where
  | checkResult (kind : JobKind) (handle : Nat) (forced : Bool) (verdict : Verdict) (entered : LinkState)
  | retuneDone (handle step : Nat) (admission : Bool)
  | retuneReverted (handle carrier : Nat) (abandoned : Option Nat)
  | linkLost (handle : Nat) (left : LinkState) (held : List (Nat × Nat))
  | released (handle : Nat) (label : List Nat)
  | referral (handle carrier : Nat) (reason : Referral) (count : Nat)
  | referralExpired (handle carrier count : Nat)
  | interference (handle severity count : Nat)
  | carrierLoss (handle : Nat) (state : LinkState) (held : List (Nat × Nat))
  | poolLow (count threshold : Nat)
  | sourceStale (source : Source)
  | sourceLive (source : Source)
  | talkTimeout (dest key : Nat) (origin : Origin)
  | planApplied (number : BitVec 16) (slots packs : Nat)
  deriving DecidableEq, Repr

/-- What a collect presents (R183). -/
inductive Item where
  | response (r : Response)
  | notice (n : Notice)
  | empty
  deriving DecidableEq, Repr

/-- The transaction in progress. -/
inductive Transaction where
  | none | request | collect
  deriving DecidableEq, Repr

/-- The Control Port. READY and ATTN# follow from it (Machine/Flags.lean). -/
structure Port where
  buffer : List Byte
  transaction : Transaction
  byteCount : Nat
  owed : Option Response
  presented : Option Item
  notices : List Notice
  portError : Bool
  noticesLost : Bool
  deriving DecidableEq, Repr

/-! ### The whole part -/

/-- The tally line receivers: the bytes of a frame partly received (R112, R193). -/
structure TallyLines where
  line0 : List Byte
  line1 : List Byte
  line2 : List Byte
  deriving DecidableEq, Repr

/-- What the part keeps of its input pins: RESET# is low, and SEL# has been low since a reset, so that
it starts no transaction until it has risen (R180, R194). -/
structure Pins where
  inReset : Bool
  selHeld : Bool
  deriving DecidableEq, Repr

/-- The state of the part. `now` is the 1 ms timebase; `pending` is the queue of commands that wait,
first in, first out. -/
structure State where
  links : Tab 160 Link
  engine : Engine
  pool : Pool
  tally : TallyBlock
  talk : Talk
  plans : Plans
  radio : Radio
  mtx : Matrix
  port : Port
  lines : TallyLines
  pins : Pins
  now : Nat
  pending : List Instr
  deriving DecidableEq, Repr

/-- Why the part stops. The spec gives every command an effect in every state, so nothing raises a
fault: the type has no constructor (log entry 2). -/
inductive Fault where
  deriving DecidableEq, Repr

/-- Why a command has no meaning. -/
inductive Refusal where
  /-- Raised by `exec`'s arm of a command whose meaning is not written; safe. No arm raises it. -/
  | notModelled (mnemonic : String)
  deriving DecidableEq, Repr

/-- The state after a hardware reset with RESET# high again (R2, R18, R40, R91, R110, R131, R134, R157,
R158, R168, R176, R191). CTS is an input and the spec gives it no reset level: withdrawn (log entry 3). -/
def State.reset : State where
  links := Tab.fill 160 Link.free
  engine := { profile := none, blocked := Tab.fill 96 false, queue := [], work := .idle }
  pool := { slots := Tab.fill 32 none, threshold := 0, armed := true, sweepWanted := false,
            sweepPos := 0 }
  tally := { map := none, src0 := Src.absent, src1 := Src.absent, src2 := Src.absent }
  talk := { keys := Tab.fill 96 none, dests := Tab.fill 32 none }
  plans := { pending := Plan.empty, active := Plan.empty, state := .idle, number := 0 }
  radio := { planOwed := false, scan := 159, sending := none, received := [], cts := false }
  mtx := { owed := Tab.fill 32 false, scan := 31, sending := none, received := [] }
  port := { buffer := [], transaction := .none, byteCount := 0, owed := none, presented := none,
            notices := [], portError := false, noticesLost := false }
  lines := { line0 := [], line1 := [], line2 := [] }
  pins := { inReset := false, selHeld := false }
  now := 0
  pending := []

end Sys2Proof.Machine
end

