-- ==== Sys2Proof/Machine/Operands.lean ====
section
/-! DEFINITION. What the argument fields of requests and reports mean (Tables 11-2 and 11-3): range
checks, absent values, enumerations, and the stored form of clamped fields. -/

namespace Sys2Proof.Machine

open Sys2Proof

/-! ### Ranges -/

/-- A step argument (R1). -/
def stepOk (n : Nat) : Bool := decide (n ≤ 108000)

/-- The value of a step field that is the pool marker in ADMIT and RETUNE (Table 11-2). -/
def poolMarker : Nat := 16777215

/-- The step or pool field of ADMIT and RETUNE. -/
def stepOrPoolOk (n : Nat) : Bool := stepOk n || n == poolMarker

/-- The candidate a step or pool field asks for: none is the pool marker (R39). -/
def jobStep (n : Nat) : Option Nat := if n = poolMarker then none else some n

/-- A handle (R29). -/
def handleOk (n : Nat) : Bool := decide (n ≤ 159)

/-- A class (R10). -/
def classOk (n : Nat) : Bool := decide (n ≤ 7)

/-- A zone set argument: not empty (R11). -/
def zonesOk (z : ZoneSet) : Bool := z != 0

/-- A label: 1 to 8 characters, each of code 33 to 126 (R31). -/
def labelOk (l : List Nat) : Bool :=
  decide (1 ≤ l.length) && decide (l.length ≤ 8) && l.all fun c => decide (33 ≤ c) && decide (c ≤ 126)

/-- A flag field: any value but 0 is on (Table 11-2). -/
def isOn (n : Nat) : Bool := n != 0

/-- A one-byte field in which 255 means none (R192). -/
def optByte (n : Nat) : Option Nat := if n = 255 then none else some n

/-- A handle field in which none is allowed. -/
def optHandleOk (n : Nat) : Bool := handleOk n || n == 255

/-! ### Enumerations (Table 11-3) -/

def linkKindOf : Nat → Option LinkKind
  | 0 => some .camera
  | 1 => some .mic
  | 2 => some .iem
  | 3 => some .beltpack
  | 4 => some .base
  | _ => none

def policyOf : Nat → Option Policy
  | 0 => some .auto
  | 1 => some .refer
  | 2 => some .none
  | _ => none

def sourceOf : Nat → Option Source
  | 0 => some .main
  | 1 => some .sub1
  | 2 => some .sub2
  | _ => none

def modeOf : Nat → Option Mode
  | 0 => some .nested
  | 1 => some .level
  | 2 => some .conference
  | _ => none

def destKindOf : Nat → Option DestKind
  | 0 => some .ifb
  | 1 => some .panel
  | 2 => some .group
  | _ => none

def keyTypeOf : Nat → Option KeyType
  | 0 => some .momentary
  | 1 => some .latch
  | _ => none

/-- A panel and button in range (R132). -/
def panelOk (panel button : Nat) : Bool := decide (panel ≤ 63) && decide (button ≤ 7)

/-- The origin of DEFINE KEY, none where it is out of range (R132). -/
def originOf (kind a b : Nat) : Option Origin :=
  match kind with
  | 0 => if panelOk a b then some (.panel a b) else none
  | 1 => if handleOk a && decide (b ≤ 3) then some (.pack a b) else none
  | _ => none

/-- The number of a link state in Table 2-2, counting FREE as 0. -/
def LinkState.code : LinkState → Nat
  | .free => 0
  | .checking => 1
  | .active => 2
  | .recheck => 3
  | .retuneWait => 4
  | .settling => 5
  | .reverting => 6
  | .referred => 7
  | .releasing => 8
  | .lost => 9

/-- The link states in the order of Table 2-2. -/
def LinkState.all : List LinkState :=
  [.free, .checking, .active, .recheck, .retuneWait, .settling, .reverting, .referred, .releasing, .lost]

/-- A state filter names a state (Table 11-2; bits 10 to 15 are ignored). -/
def inFilter (f : BitVec 16) (st : LinkState) : Bool := f.getLsbD st.code

/-- A listen mask field; bits 12 to 15 are ignored (Table 11-2). -/
def listenMask (m : BitVec 16) : BitVec 12 := m.setWidth 12

/-! ### Inputs of tally sources (Table 6-1) -/

/-- How many inputs a source has. -/
def sourceInputs : Source → Nat
  | .main => 48
  | .sub1 => 24
  | .sub2 => 24

/-- An input of a source. -/
def inputOk (src : Source) (input : Nat) : Bool := decide (1 ≤ input) && decide (input ≤ sourceInputs src)

/-- A source and input field pair, none where either is out of range (R37, R121, R122). -/
def bindingOf (source input : Nat) : Option Binding :=
  match sourceOf source with
  | some src => if inputOk src input then some ⟨src, input⟩ else none
  | none => none

/-! ### LOAD PROFILE (R3, R4) -/

/-- The number of the first class table field that is refused, the entry of class `n` being field
11 + n. -/
def badClassField (n : Nat) : List ClassArgs → Option Nat
  | [] => none
  | c :: cs => if c.halfWidth = 0 ∨ 1000 < c.halfWidth then some (11 + n) else badClassField (n + 1) cs

/-- The first field of Table 1-2 that breaks its rule (R3). -/
def profileBadField (a : ProfileArgs) : Option Nat :=
  if 108000 < a.spanLow then some 1
  else if 108000 < a.spanHigh ∨ a.spanHigh ≤ a.spanLow then some 2
  else if 108000 < a.origin then some 3
  else if a.widthCode ≠ 6 ∧ a.widthCode ≠ 7 ∧ a.widthCode ≠ 8 then some 4
  else badClassField 0 a.classes.rows

/-- The profile as stored: guards, settle code and referral window clamped (R4). -/
def profileStored (a : ProfileArgs) : Profile where
  spanLow := a.spanLow
  spanHigh := a.spanHigh
  origin := a.origin
  widthCode := a.widthCode
  gcc := min a.gcc 400
  g3 := min a.g3 200
  g5 := min a.g5 200
  im5 := isOn a.im5
  settle := min a.settle 7
  window := max 2 (min a.window 60)
  classes := a.classes.mapIdx fun _ c => ⟨c.halfWidth, isOn c.contributes⟩

/-! ### LOAD TALLY MAP (R110, R111) -/

/-- A liveness field: 0 is off, otherwise clamped to 10 to 255 units of 10 ms. -/
def clampLive (n : Nat) : Nat := if n = 0 then 0 else max 10 (min n 255)

/-- The cascade of a present subsidiary `self`, none where R111 (1) refuses it. A subsidiary feeding
itself is not refused here: it is a cycle. -/
def cascadeOf (self : Source) (c : CascadeArgs) : Option Cascade :=
  if c.target = 255 then some .standalone
  else match sourceOf c.target with
    | none => none
    | some t => if t = self ∨ inputOk t c.input = true then some (.into t c.input) else none

/-- A cascade into subsidiary `t`. -/
def feeds (c : Option Cascade) (t : Source) : Bool :=
  match c with
  | some (.into u _) => u == t
  | _ => false

/-- What R111 makes of a map: refused with a code, or the map as stored. -/
inductive MapVerdict where
  | refused (st : Status)
  | stored (m : TallyMap)
  deriving DecidableEq, Repr

/-- R111 (2) and (3) on the cascades of the present subsidiaries, and the stored map. -/
def mapJudgeCascades (a : MapArgs) (c1 c2 : Option Cascade) : MapVerdict :=
  if (feeds c1 .sub2 && !isOn a.present2) || (feeds c2 .sub1 && !isOn a.present1) then
    .refused .badArgument
  else if feeds c1 .sub1 || feeds c2 .sub2 || (feeds c1 .sub2 && feeds c2 .sub1) then
    .refused .conflict
  else
    .stored { cascade1 := c1, cascade2 := c2, live0 := clampLive a.live0, live1 := clampLive a.live1,
              live2 := clampLive a.live2, protectIso := isOn a.protectIso }

/-- LOAD TALLY MAP decided (R111): an absent subsidiary's cascade field is not examined. -/
def mapJudge (a : MapArgs) : MapVerdict :=
  let c1 := cascadeOf .sub1 a.cascade1
  let c2 := cascadeOf .sub2 a.cascade2
  if (isOn a.present1 && c1.isNone) || (isOn a.present2 && c2.isNone) then .refused .badArgument
  else mapJudgeCascades a (if isOn a.present1 then c1 else none) (if isOn a.present2 then c2 else none)

/-! ### DEFINE DEST (R135) -/

/-- The stored limit: 1 in NESTED and LEVEL, 1 to 4 in CONFERENCE. -/
def clampLimit (m : Mode) (n : Nat) : Nat :=
  match m with
  | .nested => 1
  | .level => 1
  | .conference => max 1 (min n 4)

/-- The stored threshold: none, or 0 to 7. -/
def clampThreshold (n : Nat) : Option Nat := (optByte n).map (min 7)

/-- The stored talk limit: 0, or 10 to 600 s. -/
def clampTalkLimit (n : Nat) : Nat := if n = 0 then 0 else max 10 (min n 600)

/-! ### Tally frames (R114) -/

/-- The entries of a frame's list as a set of the source's inputs, in ascending order: entries of 0 or
above the source's inputs are passed over and a repeated entry counts once. -/
def inputSet (src : Source) (l : List Nat) : List Nat :=
  (List.range (sourceInputs src + 1)).filter fun i => decide (1 ≤ i) && l.contains i

end Sys2Proof.Machine
end

