-- ==== Sys2Proof/Machine/Flags.lean ====
section
/-! DEFINITION. What is computed from the state and not stored: which carriers a link holds, on-air and
lamp values, what may be sent, the derived standing of destinations, and the output pins. -/

namespace Sys2Proof.Machine

open Sys2Proof

/-! ### Link states (R19, R22) -/

/-- The occupied states: every state but FREE and CHECKING (R22). -/
def LinkState.occupied : LinkState → Bool
  | .free => false
  | .checking => false
  | _ => true

/-- The plan-eligible states (R22). -/
def LinkState.planEligible : LinkState → Bool
  | .active => true
  | .recheck => true
  | .retuneWait => true
  | .settling => true
  | .reverting => true
  | .referred => true
  | _ => false

/-- The states that hold the target field (Table 2-3): in RECHECK it is a candidate only. -/
def LinkState.holdsTarget : LinkState → Bool
  | .retuneWait => true
  | .settling => true
  | .reverting => true
  | .releasing => true
  | .lost => true
  | _ => false

/-- The states in which an owed LAMP may be sent (R129). -/
def LinkState.lampMayGo : LinkState → Bool
  | .active => true
  | .recheck => true
  | .retuneWait => true
  | .referred => true
  | _ => false

/-- The carrier field, where it is held. -/
def Link.heldCarrier (l : Link) : Option Nat := if l.state.occupied then l.carrier else none

/-- The target field, where it is held. -/
def Link.heldTarget (l : Link) : Option Nat := if l.state.holdsTarget then l.target else none

/-- The carriers held, as ordinal and step (R19, R20). -/
def Link.held (l : Link) : List (Nat × Nat) :=
  (l.heldCarrier.toList.map fun f => (0, f)) ++ (l.heldTarget.toList.map fun f => (1, f))

/-! ### On-air and lamps (R123, R126) -/

/-- A link is on-air (R123). -/
def Link.onAir (protectIso : Bool) (l : Link) : Bool :=
  l.tally == .pgm || (l.tally == .iso && protectIso) || l.holdLive

/-- The protect-ISO flag of the map in force; there is none before a map is loaded (R110). -/
def TallyBlock.protectIso (t : TallyBlock) : Bool :=
  match t.map with
  | some m => m.protectIso
  | none => false

/-- The colour of a resolved tally (R126). -/
def Tally.colour : Tally → Colour
  | .pgm => .red
  | .pvw => .green
  | .iso => .yellow
  | .none => .off

/-- The lamp value of a CAMERA link (R126, Table 6-4). -/
def Link.lamp (l : Link) : Lamp :=
  if l.suppress then Lamp.dark else ⟨l.tally.colour, l.stale && l.tally.colour != .off⟩

/-! ### Access to the tables -/

/-- The record of a handle. -/
def State.link (s : State) (h : Nat) : Link := s.links.get h Link.free

/-- The current on-air value of a handle (R28). -/
def State.onAir (s : State) (h : Nat) : Bool := (s.link h).onAir s.tally.protectIso

/-- The profile that is used before any is loaded. Nothing the part then does reads it (log entry 7). -/
def Profile.blank : Profile where
  spanLow := 0
  spanHigh := 0
  origin := 0
  widthCode := 0
  gcc := 0
  g3 := 0
  g5 := 0
  im5 := false
  settle := 0
  window := 0
  classes := Tab.fill 8 ⟨0, false⟩

/-- The profile in force. -/
def Engine.prof (e : Engine) : Profile := e.profile.getD Profile.blank

/-- The class table entry of a class (R10). -/
def Profile.cls (p : Profile) (c : Nat) : ClassEntry := p.classes.get c ⟨0, false⟩

/-- The part is CONFIGURED (R2). -/
def State.configured (s : State) : Bool := s.engine.profile.isSome

/-- The settle allowance in ms (R4). -/
def Profile.allowance (p : Profile) : Nat := 50 * (p.settle + 1)

/-- The referral window in ms (R4). -/
def Profile.windowMs (p : Profile) : Nat := 1000 * p.window

/-- The raster channel width Ws in steps (R4). -/
def Profile.width (p : Profile) : Nat :=
  match p.widthCode with
  | 6 => 1200
  | 7 => 1400
  | _ => 1600

/-! ### What may be sent (R170) -/

/-- A record offers an order or a LAMP that may go. -/
def Link.sendable (l : Link) : Bool := l.order.isSome || (l.lampOwed && l.state.lampMayGo)

/-! ### Standing of destinations (R139, R140) -/

/-- The Active Plan names a destination. -/
def Plan.names (p : Plan) (id : Nat) : Bool := p.down.rows.contains (some id)

/-- The link a destination names is plan-eligible. -/
def State.eligibleLink (s : State) (h : Option Nat) : Bool :=
  match h with
  | some h => (s.link h).state.planEligible
  | none => false

/-- A destination is routed (R139). -/
def State.routed (s : State) (id : Nat) (d : Dest) : Bool :=
  match d.kind with
  | .panel => true
  | .ifb => s.eligibleLink d.target
  | .group => s.plans.active.names id

/-- A destination is restricted (R140). -/
def State.restricted (s : State) (d : Dest) : Bool :=
  match d.watch with
  | some w => s.onAir w && d.threshold.isSome
  | none => false

/-! ### Timers -/

/-- Whole milliseconds to a deadline; 0 once it has passed (R34). -/
def State.msTo (s : State) (deadline : Nat) : Nat := deadline - s.now

/-! ### Output pins (Tables 10-1, 11-6 and 11-7) -/

/-- READY is high (R182). -/
def Port.ready (p : Port) : Bool := p.owed.isNone

/-- ATTN# is asserted, that is, low (R185). -/
def Port.attention (p : Port) : Bool := p.owed.isSome || !p.notices.isEmpty

/-- RTX is at its idle level, high (R168, Table 11-7). -/
def Radio.lineIdle (r : Radio) : Bool := r.sending.isNone

/-- MTX is at its idle level, high (R176, Table 11-7). -/
def Matrix.lineIdle (m : Matrix) : Bool := m.sending.isNone

end Sys2Proof.Machine
end

