-- ==== Sys2Proof/Machine/Coordination.lean ====
section
/-! DEFINITION. The coordination check (chapter 3): raster geometry, the nine tests in their term order,
and the finding of one check. All arithmetic is exact signed integer arithmetic (R53). -/

namespace Sys2Proof.Machine

open Sys2Proof

/-! ### Raster channels (R12, R13) -/

/-- A carrier at step `f` with half-width `h` touches raster channel `k` (R13). -/
def Profile.touches (p : Profile) (f h k : Nat) : Bool :=
  decide ((p.origin : Int) + k * p.width ≤ f + h)
    && decide ((f : Int) - h ≤ p.origin + (k + 1) * p.width - 1)

/-- The blocked channels in ascending order (R7). -/
def blockedList (m : Tab 96 Bool) : List Nat := (List.range 96).filter fun k => m.get k false

/-- The first blocked channel a carrier touches (R49). -/
def firstBlocked (p : Profile) (m : Tab 96 Bool) (f h : Nat) : Option Nat :=
  (List.range 96).find? fun k => m.get k false && p.touches f h k

/-! ### Terms (R47, R54) -/

/-- The key of `a` is lower than that of `b`: by handle, then ordinal; the candidate ranks first. -/
def TermKey.before : TermKey → TermKey → Bool
  | .candidate, .candidate => false
  | .candidate, .held _ _ => true
  | .held _ _, .candidate => false
  | .held h o, .held h' o' => decide (h < h' ∨ (h = h' ∧ o < o'))

/-- Every carrier of the list belongs to a link of its own. -/
def linksDiffer : List Party → Bool
  | [] => true
  | p :: ps => (ps.all fun q => q.link != p.link) && linksDiffer ps

/-- One zone lies in the zone set of every carrier of the list. -/
def shareZone (ps : List Party) : Bool := (ps.foldl (fun z p => z &&& p.zones) (~~~0)) != 0

/-- A term: what it is called and by how much its separation exceeds its requirement. -/
structure Term where
  ref : TermRef
  margin : Int
  deriving DecidableEq, Repr

/-- The SPACING term of the candidate and one other carrier (R50). -/
def spacingTerm (gcc : Nat) (c o : Party) : Option Term :=
  if linksDiffer [c, o] && shareZone [c, o] then
    some ⟨⟨.spacing, [o.key]⟩, ((c.step : Int) - o.step).natAbs - ((c.half : Int) + o.half + gcc)⟩
  else none

/-- The product of contributors taken with the factors given (Table 3-2). -/
def product (cs : List (Int × Party)) : Int := cs.foldl (fun p x => p + x.1 * x.2.step) 0

/-- The width of that product (Table 3-2). -/
def productWidth (cs : List (Int × Party)) : Int := cs.foldl (fun w x => w + x.1.natAbs * x.2.half) 0

/-- The victim's place in a verdict: the candidate as victim is not named (R56). -/
def victimKeys (v : Party) : List TermKey :=
  match v.key with
  | .candidate => []
  | k => [k]

/-- The intermodulation term of contributors, taken with their factors in the order the product is
written, and a victim; none where R47 forms no term. -/
def imTerm (test : Test) (guard : Nat) (cs : List (Int × Party)) (v : Party) : Option Term :=
  let ps := cs.map (·.2)
  if linksDiffer (ps ++ [v]) && shareZone (ps ++ [v]) && ps.all (·.contributes) then
    some ⟨⟨test, ps.map (·.key) ++ victimKeys v⟩,
      ((v.step : Int) - product cs).natAbs - ((v.half : Int) + productWidth cs + guard)⟩
  else none

/-- The ordered pairs of a list, the first member slowest. -/
def pairs (occ : List Party) : List (Party × Party) := occ.flatMap fun a => occ.map fun b => (a, b)

/-- The pairs whose first member's key is the lower. -/
def orderedPairs (occ : List Party) : List (Party × Party) :=
  (pairs occ).filter fun x => x.1.key.before x.2.key

/-! ### The tests (Table 3-2) -/

/-- SPACING, test 3 (R50). -/
def spacingTerms (p : Profile) (occ : List Party) (c : Party) : List Term :=
  occ.filterMap fun o => spacingTerm p.gcc c o

/-- IM3-2V, test 4: 2fa − fb (R51). -/
def im32VTerms (p : Profile) (occ : List Party) (c : Party) : List Term :=
  (pairs occ).filterMap fun x => imTerm .im32V p.g3 [(2, x.1), (-1, x.2)] c

/-- IM3-3V, test 5: fa + fb − fd, a before b (R51). -/
def im33VTerms (p : Profile) (occ : List Party) (c : Party) : List Term :=
  (orderedPairs occ).flatMap fun x => occ.filterMap fun d =>
    imTerm .im33V p.g3 [(1, x.1), (1, x.2), (-1, d)] c

/-- IM5V, test 6: 3fa − 2fb, while IM5 is enabled (R51). -/
def im5VTerms (p : Profile) (occ : List Party) (c : Party) : List Term :=
  if p.im5 then (pairs occ).filterMap fun x => imTerm .im5V p.g5 [(3, x.1), (-2, x.2)] c else []

/-- IM3-2C, test 7: 2fc − fa, then 2fa − fc, against every victim (R52). -/
def im32CTerms (p : Profile) (occ : List Party) (c : Party) : List Term :=
  ((pairs occ).filterMap fun x => imTerm .im32C p.g3 [(2, c), (-1, x.1)] x.2)
    ++ ((pairs occ).filterMap fun x => imTerm .im32C p.g3 [(2, x.1), (-1, c)] x.2)

/-- IM3-3C, test 8: fc + fa − fb, then fa + fb − fc with a before b, against every victim (R52). -/
def im33CTerms (p : Profile) (occ : List Party) (c : Party) : List Term :=
  ((pairs occ).flatMap fun x => occ.filterMap fun v =>
      imTerm .im33C p.g3 [(1, c), (1, x.1), (-1, x.2)] v)
    ++ ((orderedPairs occ).flatMap fun x => occ.filterMap fun v =>
      imTerm .im33C p.g3 [(1, x.1), (1, x.2), (-1, c)] v)

/-- IM5C, test 9: 3fc − 2fa, then 3fa − 2fc, while IM5 is enabled (R52). -/
def im5CTerms (p : Profile) (occ : List Party) (c : Party) : List Term :=
  if p.im5 then
    ((pairs occ).filterMap fun x => imTerm .im5C p.g5 [(3, c), (-2, x.1)] x.2)
      ++ ((pairs occ).filterMap fun x => imTerm .im5C p.g5 [(3, x.1), (-2, c)] x.2)
  else []

/-- The terms of tests 3 to 9 in their order; tests 7 to 9 run while the candidate contributes (R54). -/
def checkTerms (p : Profile) (occ : List Party) (c : Party) : List Term :=
  spacingTerms p occ c ++ im32VTerms p occ c ++ im33VTerms p occ c ++ im5VTerms p occ c
    ++ (if c.contributes then im32CTerms p occ c ++ im33CTerms p occ c ++ im5CTerms p occ c else [])

/-! ### The finding of a check (R48, R49, R55, R57) -/

/-- SPAN, the low edge first (R48). -/
def spanFault (p : Profile) (c : Party) : Option FailDetail :=
  if (c.step : Int) - c.half < p.spanLow then some (.span .low p.spanLow)
  else if (p.spanHigh : Int) < c.step + c.half then some (.span .high p.spanHigh)
  else none

/-- BLOCKED (R49). -/
def blockedFault (p : Profile) (m : Tab 96 Bool) (c : Party) : Option FailDetail :=
  (firstBlocked p m c.step c.half).map .blocked

/-- The first failing term of tests 3 to 9 (R55). -/
def termFault (ts : List Term) : Option FailDetail :=
  (ts.find? fun t => decide (t.margin < 0)).map fun t => .term t.ref

/-- The first of the terms of smallest margin (R57). -/
def worstTerm : List Term → Option Term
  | [] => none
  | t :: ts =>
    match worstTerm ts with
    | none => some t
    | some u => if u.margin < t.margin then some u else some t

/-- A margin as reported, saturated at 65535; unbounded where no term was formed (R57). -/
def reportedMargin : Option Term → Nat
  | none => 65535
  | some t => min t.margin.toNat 65535

/-- What one check finds: a failure, or a PASS with its margin and the term that gave it. -/
inductive Finding where
  | pass (margin : Nat) (term : Option TermRef)
  | fail (detail : FailDetail)
  deriving DecidableEq, Repr

/-- The check of candidate `c` against the occupied set `occ`, with the span and the map now standing:
the first failing test in the order 1 to 9 decides (R46, R55). -/
def check (p : Profile) (m : Tab 96 Bool) (occ : List Party) (c : Party) : Finding :=
  let ts := checkTerms p occ c
  match spanFault p c <|> blockedFault p m c <|> termFault ts with
  | some d => .fail d
  | none => .pass (reportedMargin (worstTerm ts)) ((worstTerm ts).map (·.ref))

/-! ### Carriers as parties (R45, R46) -/

/-- The candidate of a check: a step under a class, for a link or for none. -/
def candidate (p : Profile) (link : Option Nat) (step cls : Nat) (zones : ZoneSet) : Party where
  key := .candidate
  link := link
  step := step
  half := (p.cls cls).halfWidth
  contributes := (p.cls cls).contributes
  zones := zones

/-- The carriers a record holds, as members of the occupied set (R21). -/
def Link.members (p : Profile) (h : Nat) (l : Link) : List Party :=
  l.held.map fun x =>
    { key := .held h x.1, link := some h, step := x.2, half := (p.cls (l.cls.getD 0)).halfWidth,
      contributes := (p.cls (l.cls.getD 0)).contributes, zones := l.zones }

/-- The occupied set, in key order (2.2.1). -/
def State.occupied (s : State) : List Party :=
  s.links.entries.flatMap fun x => x.1.members s.engine.prof x.2

end Sys2Proof.Machine
end

