-- ==== Sys2Proof/Machine/Ops.lean ====
section
/-! DEFINITION. The named updates of the state, and the operations that several blocks share: link
records, notices, the low-pool alert, and the taking of a request at the Control Port. -/

namespace Sys2Proof.Machine

open Sys2Proof

/-! ### One update per field of State -/

def State.setLinks (s : State) (x : Tab 160 Link) : State := { s with links := x }
def State.setEngine (s : State) (x : Engine) : State := { s with engine := x }
def State.setPool (s : State) (x : Pool) : State := { s with pool := x }
def State.setTally (s : State) (x : TallyBlock) : State := { s with tally := x }
def State.setTalk (s : State) (x : Talk) : State := { s with talk := x }
def State.setPlans (s : State) (x : Plans) : State := { s with plans := x }
def State.setRadio (s : State) (x : Radio) : State := { s with radio := x }
def State.setMtx (s : State) (x : Matrix) : State := { s with mtx := x }
def State.setPort (s : State) (x : Port) : State := { s with port := x }
def State.setLines (s : State) (x : TallyLines) : State := { s with lines := x }
def State.setPins (s : State) (x : Pins) : State := { s with pins := x }
def State.setNow (s : State) (x : Nat) : State := { s with now := x }
def State.setPending (s : State) (x : List Instr) : State := { s with pending := x }

/-! ### Link records -/

/-- The record of `h` replaced. -/
def State.setLink (s : State) (h : Nat) (l : Link) : State := s.setLinks (s.links.set h l)

/-- The lowest handle whose record satisfies `p`. -/
def State.findLink (s : State) (p : Link → Bool) : Option Nat :=
  (s.links.entries.find? fun x => p x.1).map (·.2)

/-- The handle that carries a label (R31, R35). -/
def State.labelled (s : State) (label : List Nat) : Option Nat :=
  s.findLink fun l => l.state != .free && l.label == label

/-- The link bound to an input (R37). -/
def State.boundTo (s : State) (b : Binding) : Option Nat := s.findLink fun l => l.bindings.contains b

/-! ### The Notice Queue (R186, R187) -/

/-- A notice joins the tail; at a full queue it is lost and notices-lost is set. -/
def Port.queue (p : Port) (n : Notice) : Port :=
  if p.notices.length < 16 then { p with notices := p.notices ++ [n] }
  else { p with noticesLost := true }

/-- A block queues a notice. -/
def State.notify (s : State) (n : Notice) : State := s.setPort (s.port.queue n)

/-! ### The Spare Pool's flags (R96, R101) -/

/-- Sweep-wanted is set and the sweep position returns to 0 (R96). -/
def Pool.wantSweep (p : Pool) : Pool := { p with sweepWanted := true, sweepPos := 0 }

def State.wantSweep (s : State) : State := s.setPool s.pool.wantSweep

/-- The spares in the pool with their slots, in slot order. -/
def Pool.spares (p : Pool) : List (Spare × Nat) :=
  p.slots.entries.filterMap fun x => x.1.map fun sp => (sp, x.2)

/-- The spares of a status. -/
def Pool.count (p : Pool) (st : SpareStatus) : Nat := (p.spares.filter fun x => x.1.status == st).length

/-- The number of CLEAR spares. -/
def Pool.clearCount (p : Pool) : Nat := p.count .clear

/-- The low-pool evaluation (R101). -/
def State.evalLowPool (s : State) : State :=
  if s.pool.threshold < s.pool.clearCount then s.setPool { s.pool with armed := true }
  else if s.pool.armed then
    (s.setPool { s.pool with armed := false }).notify (.poolLow s.pool.clearCount s.pool.threshold)
  else s

/-- The evaluation at the end of an event before which `n` spares were CLEAR: made only where the
number has changed (R101). -/
def State.lowPoolSince (n : Nat) (s : State) : State :=
  if s.pool.clearCount = n then s else s.evalLowPool

/-- A spare spoiled: SPOILED with no margin. -/
def Spare.spoiled (sp : Spare) : Spare := { sp with status := .spoiled, margin := none }

/-! ### The Control Port -/

/-- A request transaction ends: the buffer is emptied (R180). -/
def Port.ended (p : Port) : Port := { p with buffer := [], transaction := .none, byteCount := 0 }

/-- A response becomes owed (R181, R182). -/
def State.respond (s : State) (code : Nat) (st : Status) (body : RespBody) : State :=
  s.setPort { s.port.ended with owed := some ⟨code, st, body⟩ }

/-- A transaction is discarded and port-error set (R180, R181). -/
def State.portFault (s : State) : State := s.setPort { s.port.ended with portError := true }

/-- A request transaction reaches the port. While RESET# is low every input is ignored (R194); a
transaction found under way at the end of a reset is ignored to its end (R180); during a collect SDI is
ignored (R183, log entry 8). Otherwise `k` takes the request, or discards it. -/
def State.transaction (s : State) (k : State → State) : State :=
  if s.pins.inReset then s
  else if s.pins.selHeld then s.setPins { s.pins with selHeld := false }
  else if s.port.transaction = .collect then s
  else k s

/-- What the owning block answers: the state it leaves, a status and a body. -/
structure Answer where
  state : State
  status : Status
  body : RespBody
  deriving DecidableEq, Repr

/-- A refusal: nothing changes. -/
def State.refuse (s : State) (st : Status) : Answer := ⟨s, st, .empty⟩

/-- A refusal whose body names something. -/
def State.refuseWith (s : State) (st : Status) (body : RespBody) : Answer := ⟨s, st, body⟩

/-- An OK with no body. -/
def State.ok (s : State) : Answer := ⟨s, .ok, .empty⟩

/-- An OK with a body. -/
def State.okWith (s : State) (body : RespBody) : Answer := ⟨s, .ok, body⟩

/-- The judging of a correctly framed request of a known code, in the order of R181: a response owed, an
UNCONFIGURED part, a wrong length, and then the owning block. -/
def State.take {α : Type} (s : State) (code : Nat) (always : Bool) (b : ReqBody α)
    (own : α → State → Answer) : State :=
  s.transaction fun s =>
    if s.port.owed.isSome then s.portFault
    else if !always && !s.configured then s.respond code .notConfigured .empty
    else
      match b with
      | .badLength => s.respond code .badArgument .lengthField
      | .args a => (own a s).state.respond code (own a s).status (own a s).body

/-- A request about an existing link (R29, steps 1 and 2): the handle, the other arguments, a FREE
record; `k` decides the rest. -/
def State.withLink (s : State) (h : Nat) (argsOk : Bool) (k : Link → Answer) : Answer :=
  if !handleOk h || !argsOk then s.refuse .badArgument
  else if (s.link h).state = .free then s.refuse .noLink
  else k (s.link h)

/-- An event at the part: ignored while RESET# is low (R194). -/
def State.event (s : State) (k : State → State) : State := if s.pins.inReset then s else k s

/-- An event from another party: discarded also while the part is UNCONFIGURED (R9). -/
def State.outside (s : State) (k : State → State) : State :=
  if s.pins.inReset || !s.configured then s else k s

end Sys2Proof.Machine
end

