-- ==== Sys2Proof/Machine/Arbitration.lean ====
section
/-! DEFINITION. The Talk Arbiter's operations on its own two tables (chapter 7): requests, pre-emption,
ends, refills and changes of standing at one destination. `now` is the timebase, from which talk
deadlines are set. -/

namespace Sys2Proof.Machine

open Sys2Proof

/-! ### The tables -/

def Talk.key (t : Talk) (k : Nat) : Option Key := t.keys.get k none

def Talk.dest (t : Talk) (id : Nat) : Option Dest := t.dests.get id none

def Talk.setKey (t : Talk) (k : Nat) (x : Option Key) : Talk := { t with keys := t.keys.set k x }

def Talk.setDest (t : Talk) (id : Nat) (x : Option Dest) : Talk := { t with dests := t.dests.set id x }

/-- A defined key changed by `f`. -/
def Talk.onKey (t : Talk) (k : Nat) (f : Key → Key) : Talk :=
  match t.key k with
  | some x => t.setKey k (some (f x))
  | none => t

/-- A defined destination changed by `f`. -/
def Talk.onDest (t : Talk) (id : Nat) (f : Dest → Dest) : Talk :=
  match t.dest id with
  | some d => t.setDest id (some (f d))
  | none => t

/-- The level of a key. -/
def Talk.level (t : Talk) (k : Nat) : Nat :=
  match t.key k with
  | some x => x.level
  | none => 0

/-- The state of a key; an undefined entry counts as IDLE. -/
def Talk.keyState (t : Talk) (k : Nat) : KeyState :=
  match t.key k with
  | some x => x.state
  | none => .idle

/-- The lowest key that is defined and satisfies `p`. -/
def Talk.findKey (t : Talk) (p : Key → Bool) : Option Nat :=
  (t.keys.entries.find? fun x => match x.1 with | some k => p k | none => false).map (·.2)

/-- The defined keys that satisfy `p`, in ascending order. -/
def Talk.keysWith (t : Talk) (p : Key → Bool) : List Nat :=
  (t.keys.entries.filter fun x => match x.1 with | some k => p k | none => false).map (·.2)

/-- The talking set of a destination, empty where it is undefined (R178). -/
def Talk.talking (t : Talk) (id : Nat) : List Nat :=
  match t.dest id with
  | some d => d.talking
  | none => []

/-! ### Rings and the waiting order (R141, R150) -/

/-- A ring of a destination. -/
def Dest.ring (d : Dest) (level : Nat) : List Nat := d.rings.get level []

/-- A key moved to the end of the ring of its level. -/
def Dest.toRingEnd (d : Dest) (level k : Nat) : Dest :=
  { d with rings := d.rings.set level ((d.ring level).erase k ++ [k]) }

/-- A key taken out of a ring. -/
def Dest.leaveRing (d : Dest) (level k : Nat) : Dest :=
  { d with rings := d.rings.set level ((d.ring level).erase k) }

/-- The place of a key in the waiting order: by level, then by ring place with rotation on and by
request order with rotation off (R141). -/
def Dest.waitRank (d : Dest) (level k : Nat) : Nat :=
  1000 * level + (if d.rotation then (d.ring level).idxOf k else d.requests.idxOf k)

/-- A key put into a list kept in ascending order of `rank`. -/
def insertBy (rank : Nat → Nat) (k : Nat) : List Nat → List Nat
  | [] => [k]
  | x :: xs => if rank k < rank x then k :: x :: xs else x :: insertBy rank k xs

/-- A list put in ascending order of `rank`, equal ranks keeping their order. -/
def sortBy (rank : Nat → Nat) (l : List Nat) : List Nat := l.foldl (fun acc k => insertBy rank k acc) []

/-- The rank of a key in the waiting order of a destination. -/
def Talk.waitRank (t : Talk) (d : Dest) (k : Nat) : Nat := d.waitRank (t.level k) k

/-- A key is eligible at a destination (R140). -/
def Talk.eligible (t : Talk) (d : Dest) (k : Nat) : Bool :=
  d.routed && (!d.restricted || decide (t.level k ≤ d.threshold.getD 7))

/-! ### Grants and waits -/

/-- The deadline of a grant made now (R152). -/
def Dest.deadline (d : Dest) (now : Nat) : Option Nat :=
  if d.talkLimit = 0 then none else some (now + 1000 * d.talkLimit)

/-- A key is granted a place (R143, R144): it leaves the waiting list, is appended to the talking set,
becomes TALKING and starts its talk deadline. -/
def Talk.grant (t : Talk) (now id k : Nat) : Talk :=
  match t.dest id with
  | none => t
  | some d =>
    (t.onKey k fun x => { x with state := .talking, deadline := d.deadline now }).setDest id
      (some { d with waiting := d.waiting.erase k, talking := d.talking ++ [k] })

/-- A key becomes WAITING at its destination: it leaves the talking set, its deadline is dropped, and it
takes its place in the waiting list (R144, R147). -/
def Talk.wait (t : Talk) (id k : Nat) : Talk :=
  match t.dest id with
  | none => t
  | some d =>
    (t.onKey k fun x => { x with state := .waiting, deadline := none }).setDest id
      (some { d with
        talking := d.talking.erase k
        waiting := insertBy (t.waitRank d) k (d.waiting.erase k) })

/-- At most `n` grants of a refill (R143). -/
def Talk.refillN (now id : Nat) : Nat → Talk → Talk
  | 0, t => t
  | n + 1, t =>
    match t.dest id with
    | none => t
    | some d =>
      if d.talking.length < d.limit then
        match d.waiting.find? (t.eligible d) with
        | some k => Talk.refillN now id n (t.grant now id k)
        | none => t
      else t

/-- A refill fills the free places with the first eligible waiting keys (R143). -/
def Talk.refill (t : Talk) (now id : Nat) : Talk :=
  match t.dest id with
  | none => t
  | some d => Talk.refillN now id d.waiting.length t

/-! ### Ends (R146) -/

/-- A key becomes IDLE with no deadline. -/
def Talk.idleKey (t : Talk) (k : Nat) : Talk :=
  t.onKey k fun x => { x with state := .idle, deadline := none }

/-- The end of a key's talk: its place is freed, its ring turns while rotation is on, and the
destination refills. -/
def Talk.endTalk (t : Talk) (now id k : Nat) : Talk :=
  let t' := (t.idleKey k).onDest id fun d =>
    let d' := { d with talking := d.talking.erase k, requests := d.requests.erase k }
    if d.rotation then d'.toRingEnd (t.level k) k else d'
  t'.refill now id

/-- The end of a key's wait: no place is freed and no ring turns. -/
def Talk.endWait (t : Talk) (id k : Nat) : Talk :=
  (t.idleKey k).onDest id fun d =>
    { d with waiting := d.waiting.erase k, requests := d.requests.erase k }

/-- A key's talk or wait ends, by the state the event finds it in. -/
def Talk.endKey (t : Talk) (now k : Nat) : Talk :=
  match t.key k with
  | none => t
  | some x =>
    match x.state with
    | .talking => t.endTalk now x.dest k
    | .waiting => t.endWait x.dest k
    | .idle => t
    | .disabled => t

/-! ### Requests (R144, R145) -/

/-- The least urgent talker: of the highest level number, and among several the one granted last. -/
def Talk.leastUrgent (t : Talk) : List Nat → Option Nat
  | [] => none
  | k :: ks =>
    match t.leastUrgent ks with
    | none => some k
    | some v => if t.level v < t.level k then some k else some v

/-- A key of level `l` pre-empts a talker of level `v` (R145). -/
def Mode.preempts (m : Mode) (l v : Nat) : Bool :=
  match m with
  | .nested => decide (l < v)
  | .level => decide (l ≤ v)
  | .conference => decide (l < v)

/-- The talker a key pre-empts. -/
def Talk.victim (t : Talk) (d : Dest) (k : Nat) : Option Nat :=
  match t.leastUrgent d.talking with
  | none => none
  | some v => if d.mode.preempts (t.level k) (t.level v) then some v else none

/-- A request is placed at a destination whose request order it has joined (R144). -/
def Talk.place (t : Talk) (now id k : Nat) (d : Dest) : Talk :=
  if t.eligible d k then
    if d.talking.length < d.limit then t.grant now id k
    else
      match t.victim d k with
      | some v => (t.wait id v).grant now id k
      | none => t.wait id k
  else t.wait id k

/-- A request: the key joins the end of the request order and is placed (R144). -/
def Talk.request (t : Talk) (now k : Nat) : Talk :=
  match t.key k with
  | none => t
  | some x =>
    match t.dest x.dest with
    | none => t
    | some d =>
      let d' := { d with requests := d.requests ++ [k] }
      (t.setDest x.dest (some d')).place now x.dest k d'

/-- What Table 7-3 makes of an event at a key. -/
inductive KeyAction where
  | request | finish | ignored
  deriving DecidableEq, Repr

/-- Table 7-3 (R142). -/
def Key.action (x : Key) (press : Bool) : KeyAction :=
  match x.state with
  | .idle => if press then .request else .ignored
  | .disabled => .ignored
  | .waiting =>
    match x.type with
    | .momentary => if press then .ignored else .finish
    | .latch => if press then .finish else .ignored
  | .talking =>
    match x.type with
    | .momentary => if press then .ignored else .finish
    | .latch => if press then .finish else .ignored

/-- A key event at a key (R142). -/
def Talk.keyEventAt (t : Talk) (now k : Nat) (press : Bool) : Talk :=
  match t.key k with
  | none => t
  | some x =>
    match x.action press with
    | .request => t.request now k
    | .finish => t.endKey now k
    | .ignored => t

/-! ### Belt-packs (R148) -/

/-- The key's origin names one of the packs `lost`. -/
def Key.ofPack (lost : Nat → Bool) (x : Key) : Bool :=
  match x.origin with
  | .pack h _ => lost h
  | .panel _ _ => false

/-- Every WAITING or TALKING key of the packs `lost` ends by R146. The waits, which free no place, end
first; the talks end in the free order `Config.packKeyRank` (log entry 6). -/
def Talk.endPacks (t : Talk) (now : Nat) (lost : Nat → Bool) : Talk :=
  let waits := t.keysWith fun x => x.state == .waiting && x.ofPack lost
  let talks := t.keysWith fun x => x.state == .talking && x.ofPack lost
  (sortBy (Config.packKeyRank now) talks).foldl (fun t k => t.endKey now k)
    (waits.foldl (fun t k => t.endKey now k) t)

/-- Every key of a pack becomes DISABLED, after the ends of R146 (R148). -/
def Talk.disablePack (t : Talk) (now h : Nat) : Talk :=
  let t' := t.endPacks now (· == h)
  { t' with keys := t'.keys.mapIdx fun _ x => x.map fun k =>
      if k.ofPack (· == h) then { k with state := .disabled, deadline := none } else k }

/-! ### Changes of standing (R147) -/

/-- The talkers a standing forbids: all of an unrouted destination, and of a restricted one those above
the threshold. -/
def Talk.forbidden (t : Talk) (d : Dest) : List Nat := d.talking.filter fun k => !t.eligible d k

/-- A destination takes the standing computed for it; where either value has changed, the talkers it
forbids become WAITING and the places are refilled (R147). -/
def Talk.restand (t : Talk) (now id : Nat) (routed restricted : Bool) : Talk :=
  match t.dest id with
  | none => t
  | some d =>
    if d.routed = routed ∧ d.restricted = restricted then t
    else
      let d' := { d with routed := routed, restricted := restricted }
      let t' := t.setDest id (some d')
      ((t'.forbidden d').foldl (fun t k => t.wait id k) t').refill now id

/-! ### CLEAR TALK (R153) -/

/-- A WAITING or TALKING key becomes IDLE. -/
def Key.cleared (x : Key) : Key :=
  match x.state with
  | .waiting => { x with state := .idle, deadline := none }
  | .talking => { x with state := .idle, deadline := none }
  | .idle => x
  | .disabled => x

/-- Every request at every destination is withdrawn. -/
def Talk.cleared (t : Talk) : Talk where
  keys := t.keys.mapIdx fun _ x => x.map Key.cleared
  dests := t.dests.mapIdx fun _ x => x.map fun d => { d with talking := [], waiting := [], requests := [] }

/-! ### Standing of every destination -/

/-- A destination's standing is recomputed from the links, the Tally Map and the Active Plan, with the
effects of R147. -/
def State.restandOne (s : State) (id : Nat) : State :=
  match s.talk.dest id with
  | none => s
  | some d => s.setTalk (s.talk.restand s.now id (s.routed id d) (s.restricted d))

/-- Every destination's standing is recomputed from the links, the Tally Map and the Active Plan, with
the effects of R147; one whose standing has not changed is left as it is. -/
def State.restandAll (s : State) : State :=
  s.setTalk <| (List.range 32).foldl (fun t id =>
    match t.dest id with
    | none => t
    | some d => t.restand s.now id (s.routed id d) (s.restricted d)) s.talk

end Sys2Proof.Machine
end

