-- ==== Sys2Proof/Machine/Resolution.lean ====
section
/-! DEFINITION. The Tally Resolver's operations (chapter 6): sources, effective states, resolved tally,
stale flags, owed lamps, and the delivery of on-air changes. -/

namespace Sys2Proof.Machine

open Sys2Proof

/-! ### Sources and the map -/

def TallyBlock.src (t : TallyBlock) : Source → Src
  | .main => t.src0
  | .sub1 => t.src1
  | .sub2 => t.src2

def TallyBlock.setSrc (t : TallyBlock) (x : Source) (v : Src) : TallyBlock :=
  match x with
  | .main => { t with src0 := v }
  | .sub1 => { t with src1 := v }
  | .sub2 => { t with src2 := v }

/-- The cascade of a subsidiary; none where it is absent, and for M (R110). -/
def TallyBlock.cascade (t : TallyBlock) (x : Source) : Option Cascade :=
  match t.map with
  | none => none
  | some m =>
    match x with
    | .main => none
    | .sub1 => m.cascade1
    | .sub2 => m.cascade2

/-- A source is present in the map in force (R110). -/
def TallyBlock.present (t : TallyBlock) (x : Source) : Bool :=
  match x with
  | .main => t.map.isSome
  | .sub1 => (t.cascade .sub1).isSome
  | .sub2 => (t.cascade .sub2).isSome

/-- The liveness of a source in 10 ms units, 0 for off. -/
def TallyMap.live (m : TallyMap) : Source → Nat
  | .main => m.live0
  | .sub1 => m.live1
  | .sub2 => m.live2

/-- The deadline a frame taken now gives a source (R114). -/
def TallyBlock.liveDeadline (t : TallyBlock) (x : Source) (now : Nat) : Option Nat :=
  match t.map with
  | none => none
  | some m => if m.live x = 0 then none else some (now + 10 * m.live x)

/-! ### Raw and effective states (R117, R118) -/

/-- st(x, i), the raw state of an input. -/
def TallyBlock.raw (t : TallyBlock) (x : Source) (i : Nat) : Tally :=
  if (t.src x).state = .absent then .none
  else if (t.src x).program.contains i then .pgm
  else if (t.src x).preview.contains i then .pvw
  else .none

/-- Table 6-2: the raw state of a cascaded subsidiary's input under the effective state of its target. -/
def cascaded : Tally → Tally → Tally
  | .pgm, .pgm => .pgm
  | .pgm, .pvw => .pvw
  | .pgm, .iso => .iso
  | .pgm, .none => .iso
  | .pvw, .pgm => .pvw
  | .pvw, .pvw => .none
  | .pvw, .iso => .none
  | .pvw, .none => .none
  | .iso, _ => .none
  | .none, _ => .none

/-- What a standalone subsidiary's input means (R117). -/
def isolated : Tally → Tally
  | .pgm => .iso
  | .pvw => .none
  | .iso => .none
  | .none => .none

/-- eff(x, i), with at most `n` sources on the way to the top of the chain. -/
def TallyBlock.effN (t : TallyBlock) : Nat → Source → Nat → Tally
  | 0, _, _ => .none
  | _ + 1, .main, i => t.raw .main i
  | n + 1, x, i =>
    match t.cascade x with
    | none => .none
    | some .standalone => isolated (t.raw x i)
    | some (.into y k) => cascaded (t.raw x i) (t.effN n y k)

/-- eff(x, i): a chain holds at most three sources (R111). -/
def TallyBlock.eff (t : TallyBlock) (b : Binding) : Tally := t.effN 3 b.source b.input

/-- The sources from `x` to the top of its chain, at most `n` of them. -/
def TallyBlock.pathN (t : TallyBlock) : Nat → Source → List Source
  | 0, _ => []
  | n + 1, x =>
    match t.cascade x with
    | some (.into y _) => x :: t.pathN n y
    | _ => [x]

/-- The path of a binding (R118). -/
def TallyBlock.path (t : TallyBlock) (b : Binding) : List Source := t.pathN 3 b.source

/-! ### The resolved tally and the stale flag (R119, R120) -/

/-- The order PGM above PVW above ISO above NONE. -/
def Tally.rank : Tally → Nat
  | .none => 0
  | .iso => 1
  | .pvw => 2
  | .pgm => 3

def Tally.higher (a b : Tally) : Tally := if a.rank < b.rank then b else a

/-- The resolved tally of a list of bindings. -/
def TallyBlock.resolve (t : TallyBlock) (bs : List Binding) : Tally :=
  bs.foldl (fun r b => r.higher (t.eff b)) .none

/-- A STALE source lies on the path of a binding. -/
def TallyBlock.stalePath (t : TallyBlock) (b : Binding) : Bool :=
  (t.path b).any fun x => (t.src x).state == .stale

/-- The stale flag of a list of bindings (R120). -/
def TallyBlock.staleOf (t : TallyBlock) (bs : List Binding) : Bool :=
  !bs.isEmpty && bs.all fun b => t.eff b != t.resolve bs || t.stalePath b

/-! ### Recomputation (R119, R128) -/

/-- Lamp owed after an event that recomputes the lamp value of a CAMERA link (R128). -/
def Link.oweLamp (l : Link) : Link :=
  if l.kind = some .camera ∧ l.lamp ≠ l.lastLamp then { l with lampOwed := true } else l

/-- The tally fields of a record recomputed from the lists, the map and its bindings. -/
def Link.resolved (t : TallyBlock) (l : Link) : Link :=
  ({ l with tally := t.resolve l.bindings, stale := t.staleOf l.bindings }).oweLamp

/-- A source lies on one of the paths of a record's bindings. -/
def Link.boundThrough (t : TallyBlock) (x : Source) (l : Link) : Bool :=
  l.bindings.any fun b => (t.path b).contains x

/-- Resolution recomputed for every link bound through a source (R114 to R116). -/
def State.resolveThrough (s : State) (x : Source) : State :=
  s.setLinks (s.links.mapIdx fun _ l => if l.boundThrough s.tally x then l.resolved s.tally else l)

/-- Resolution recomputed for every link (R112). -/
def State.resolveAll (s : State) : State := s.setLinks (s.links.mapIdx fun _ l => l.resolved s.tally)

/-- Resolution recomputed for one link (R121, R122, R125, R127). -/
def State.resolveLink (s : State) (h : Nat) : State := s.setLink h ((s.link h).resolved s.tally)

/-! ### On-air change events (R74, R124) -/

/-- What an on-air change does to a record (R74). -/
def Link.onAirChange (l : Link) (on : Bool) : Link :=
  match l.state, on with
  | .retuneWait, false => { l with state := .settling, order := l.target.map .tune, timer := none }
  | .settling, true =>
    if l.carrier.isSome && !l.forced && l.order.isSome && l.order == l.target.map .tune then
      { l with state := .retuneWait, order := none, timer := none }
    else l
  | _, _ => l

/-- The on-air changes since `s0` delivered: to the Link Table at each link whose value changed, and to
the Talk Arbiter, whose standing follows (R124, R140). -/
def State.deliverOnAir (s0 s : State) : State :=
  (s.setLinks (s.links.mapIdx fun h l =>
    if s0.onAir h = s.onAir h then l else l.onAirChange (s.onAir h))).restandAll

end Sys2Proof.Machine
end

