-- ==== Sys2Proof/Machine/Lifecycle.lean ====
section
/-! DEFINITION. The Link Table's transitions that several events share (chapter 4): the entries to FREE,
RELEASING, LOST, REFERRED and ACTIVE, with what they do to the plans, the keys and the destinations. -/

namespace Sys2Proof.Machine

open Sys2Proof

/-! ### Trimming (R165) -/

/-- A plan holds a pack entry for a handle. -/
def Plan.hasPack (p : Plan) (h : Nat) : Bool := p.packs.any fun e => e.handle == h

/-- A plan without the pack entry of a handle. -/
def Plan.without (p : Plan) (h : Nat) : Plan := { p with packs := p.packs.filter fun e => e.handle != h }

/-- Plan owed is set (R158, R168). -/
def State.owePlan (s : State) : State := s.setRadio { s.radio with planOwed := true }

/-- A departing link's pack entry is removed from both plans; plan owed is set where there was one. -/
def State.trim (s : State) (h : Nat) : State :=
  if s.plans.pending.hasPack h || s.plans.active.hasPack h then
    (s.setPlans { s.plans with
      pending := s.plans.pending.without h, active := s.plans.active.without h }).owePlan
  else s

/-- A link whose state was `was` has left the plan-eligible states, if it was in one: it is trimmed, the
keys of the pack go IDLE, and the destinations' standing follows (R84, R139, R148). -/
def State.leavePlans (s : State) (h : Nat) (was : LinkState) : State :=
  if was.planEligible then
    let t := s.trim h
    (t.setTalk (t.talk.endPacks t.now (· == h))).restandAll
  else s

/-! ### FREE (R88, R149) -/

/-- A destination that no longer names a freed link. -/
def Dest.dropLink (h : Nat) (d : Dest) : Dest :=
  { d with
    target := if d.target = some h then none else d.target
    watch := if d.watch = some h then none else d.watch }

/-- A freed link is dropped from every destination. -/
def Talk.dropLink (t : Talk) (h : Nat) : Talk :=
  { t with dests := t.dests.mapIdx fun _ x => x.map (Dest.dropLink h) }

/-- A link enters FREE: its record takes its FREE values, which gives up its carriers, its label and its
bindings; sweep-wanted is set; the keys of a pack become DISABLED; and the destinations that named the
link drop it, with the effects of R147. -/
def State.enterFree (s : State) (h : Nat) : State :=
  let t := (s.setLink h Link.free).wantSweep
  (t.setTalk ((t.talk.disablePack t.now h).dropLink h)).restandAll

/-! ### RELEASING and LOST (R84) -/

/-- The record of a link that enters RELEASING. -/
def Link.releasing (l : Link) : Link :=
  { l with state := .releasing, order := some .mute, timer := none, tries := 0, forced := false,
           job := none }

/-- A link enters RELEASING, keeping the carrier and target fields of `l`. -/
def State.enterReleasing (s : State) (h : Nat) (l : Link) : State :=
  (s.setLink h l.releasing).leavePlans h l.state

/-- The record of a link that enters LOST. -/
def Link.toLost (l : Link) : Link :=
  { l with state := .lost, order := none, timer := none, tries := 0, forced := false }

/-- A link enters LOST, and LINK_LOST is queued with the state it left and the carriers it holds. -/
def State.enterLost (s : State) (h : Nat) (l : Link) : State :=
  ((s.setLink h l.toLost).leavePlans h l.state).notify (.linkLost h l.state l.toLost.held)

/-! ### ACTIVE (R79) -/

/-- The record of a link that reaches ACTIVE on step `kept`: a CAMERA link owes a LAMP. -/
def Link.toActive (l : Link) (kept : Nat) : Link :=
  { l with state := .active, carrier := some kept, target := none, order := none, timer := none,
           forced := false, tries := 0, lampOwed := l.lampOwed || l.kind == some .camera }

/-- A link reaches ACTIVE on step `kept` by a matching TUNED; where it held another carrier, that one
leaves the occupied set and sweep-wanted is set. A LOST link becomes plan-eligible again (R139). -/
def State.reachActive (s : State) (h : Nat) (l : Link) (kept : Nat) : State :=
  let t := s.setLink h (l.toActive kept)
  let t := if 1 < l.held.length then t.wantSweep else t
  if l.state.planEligible then t else t.restandAll

/-! ### REFERRED (R106) -/

/-- The record of a link that enters REFERRED with this deadline. -/
def Link.toReferred (l : Link) (deadline : Nat) : Link :=
  { l with state := .referred, job := none, target := none, forced := false, order := none,
           timer := some ⟨.referral, deadline⟩ }

/-- A link enters REFERRED: the REFERRAL timer starts and a REFERRAL notice is queued. -/
def State.enterReferred (s : State) (h : Nat) (l : Link) (why : Referral) : State :=
  (s.setLink h (l.toReferred (s.now + s.engine.prof.windowMs))).notify
    (.referral h (l.carrier.getD 0) why l.interference)

/-- A link back to ACTIVE from a check or a referral: no target, no job, no timer, forced clear. -/
def Link.backActive (l : Link) : Link :=
  { l with state := .active, target := none, job := none, forced := false, timer := none }

end Sys2Proof.Machine
end

