-- ==== Sys2Proof/Machine/Service.lean ====
section
/-! DEFINITION. The Coordination Engine at work (sections 3.2, 3.5 and 3.6) and the Spare Pool's part in
it (chapter 5): jobs, trials, sweep units, verdicts and their delivery. -/

namespace Sys2Proof.Machine

open Sys2Proof

/-! ### The Check Queue (R40, R41, R62, R63) -/

/-- The Check Queue holds 12 jobs. -/
def Engine.full (e : Engine) : Bool := decide (12 ≤ e.queue.length)

/-- A job is appended at the tail. -/
def State.offer (s : State) (j : Job) : State :=
  s.setEngine { s.engine with queue := s.engine.queue ++ [j] }

/-- The queue after the job of link `h` is voided: the running job is marked, a waiting one removed. -/
def voidIn (running : Bool) (h : Nat) : List Job → List Job
  | [] => []
  | j :: js =>
    if running then
      if j.handle = h ∧ j.void = false then { j with void := true } :: js
      else j :: js.filter fun k => k.handle != h
    else (j :: js).filter fun k => k.handle != h

/-- The engine runs a job. -/
def Work.onJob : Work → Bool
  | .job _ _ _ => true
  | .idle => false
  | .sweep _ _ _ => false

/-- The job of a retired link is voided. -/
def State.voidJob (s : State) (h : Nat) : State :=
  s.setEngine { s.engine with queue := voidIn s.engine.work.onJob h s.engine.queue }

/-! ### Naming spares (R97, R99) -/

/-- The zone set includes every zone of another. -/
def includes (z w : ZoneSet) : Bool := z &&& w == w

/-- A spare matches a pool job. -/
def Spare.suits (sp : Spare) (j : Job) : Bool :=
  sp.cls == j.cls && includes sp.zones j.zones && sp.inUse == .none

/-- The CLEAR spare of highest last margin, the lowest slot among equals. -/
def bestClear : List (Spare × Nat) → Option (Spare × Nat)
  | [] => none
  | x :: xs =>
    match bestClear xs with
    | none => some x
    | some y => if x.1.margin.getD 0 < y.1.margin.getD 0 then some y else some x

/-- The slot of the spare named for a pool job: the best CLEAR one, else the first UNCHECKED one. -/
def Pool.pick (p : Pool) (j : Job) : Option Nat :=
  let fits := p.spares.filter fun x => x.1.suits j
  ((bestClear (fits.filter fun x => x.1.status == .clear)) <|>
    (fits.find? fun x => x.1.status == .unchecked)).map (·.2)

/-- The spare named for a sweep, with its slot: the lowest one at or above the sweep position that is
not CLEAR. -/
def Pool.nextSweep (p : Pool) : Option (Spare × Nat) :=
  p.spares.find? fun x => decide (p.sweepPos ≤ x.2) && x.1.status != .clear

/-- A slot's content replaced. -/
def Pool.setSlot (p : Pool) (slot : Nat) (x : Option Spare) : Pool :=
  { p with slots := p.slots.set slot x }

/-- The spare of a slot marked with what judges it. -/
def Pool.mark (p : Pool) (slot : Nat) (u : InUse) : Pool :=
  match p.slots.get slot none with
  | some sp => p.setSlot slot (some { sp with inUse := u })
  | none => p

/-! ### Checks in force -/

/-- A check with the profile and the map now standing (R46). -/
def State.check (s : State) (occ : List Party) (c : Party) : Finding :=
  Sys2Proof.Machine.check s.engine.prof s.engine.blocked occ c

/-- The candidate of a job at a step (R45). -/
def State.jobCandidate (s : State) (j : Job) (step : Nat) : Party :=
  candidate s.engine.prof (some j.handle) step j.cls j.zones

/-- A spare as a sweep unit and a recheck take it (R61, R95). -/
def State.spareCandidate (s : State) (sp : Spare) : Party :=
  candidate s.engine.prof none sp.step sp.cls sp.zones

/-- The verdict of a check at a step. -/
def Finding.verdict (step : Nat) : Finding → Verdict
  | .pass m t => .pass step m t
  | .fail d => .fail step d

/-- A spare after a check of it: CLEAR with the margin found, or SPOILED. -/
def Finding.apply (sp : Spare) : Finding → Spare
  | .pass m _ => { sp with status := .clear, margin := some m }
  | .fail _ => sp.spoiled

/-- Every CLEAR spare is judged against the occupied set now standing (R95). -/
def State.recheck (s : State) : State :=
  s.setPool { s.pool with slots := s.pool.slots.mapIdx fun _ x => x.map fun sp =>
    if sp.status = .clear then (s.check s.occupied (s.spareCandidate sp)).apply sp else sp }

/-! ### Verdicts (R66, R67, R70, R71, R73, R105) -/

/-- A PASS. -/
def Verdict.isPass : Verdict → Bool
  | .pass _ _ _ => true
  | .fail _ _ => false
  | .noSpare _ => false

/-- CHECK_RESULT is queued with the verdict and the state entered (R68). -/
def State.checkResult (s : State) (j : Job) (v : Verdict) (entered : LinkState) : State :=
  s.notify (.checkResult j.kind j.handle j.forced v entered)

/-- The record of an admission that passed at `step` (R66). -/
def Link.admitted (l : Link) (step : Nat) : Link :=
  { l with state := .settling, carrier := none, target := some step, job := none,
           order := some (.tune step), tries := 0, interference := 0, timer := none }

/-- The record of a retune that passed at `step` (R70). -/
def Link.granted (l : Link) (step : Nat) (onAir : Bool) : Link :=
  if onAir && !l.forced then
    { l with state := .retuneWait, target := some step, job := none, order := none, timer := none }
  else
    { l with state := .settling, target := some step, job := none, order := some (.tune step),
             timer := none }

/-- The verdict of a CHECKING link. -/
def State.admissionVerdict (s : State) (j : Job) (l : Link) : Verdict → State
  | .pass f m t =>
    ((s.setLink j.handle (l.admitted f)).restandAll).checkResult j (.pass f m t) .settling
  | .fail f d => (s.enterFree j.handle).checkResult j (.fail f d) .free
  | .noSpare n => (s.enterFree j.handle).checkResult j (.noSpare n) .free

/-- The verdict of a MOVE job (R73). -/
def State.moveVerdict (s : State) (j : Job) (l : Link) (v : Verdict) : State :=
  (s.setLink j.handle { l.backActive with zones := if v.isPass then j.zones else l.zones }).checkResult
    j v .active

/-- The verdict of a retune, or of an AUTO job (R70, R71, R105). -/
def State.retuneVerdict (s : State) (j : Job) (l : Link) : Verdict → State
  | .pass f m t =>
    let l' := l.granted f (s.onAir j.handle)
    (s.setLink j.handle l').checkResult j (.pass f m t) l'.state
  | .fail f d => (s.setLink j.handle l.backActive).checkResult j (.fail f d) .active
  | .noSpare n =>
    if l.job = some .auto then s.enterReferred j.handle l (.pool n)
    else (s.setLink j.handle l.backActive).checkResult j (.noSpare n) .active

/-- A verdict delivered to the Link Table and applied there (R58). -/
def State.deliver (s : State) (j : Job) (v : Verdict) : State :=
  let l := s.link j.handle
  match l.state with
  | .checking => s.admissionVerdict j l v
  | .recheck => if l.job = some .move then s.moveVerdict j l v else s.retuneVerdict j l v
  | _ => s

/-! ### Completions (R44, R63) -/

/-- The running job leaves the head of the queue. -/
def State.dropHead (s : State) : State :=
  s.setEngine { s.engine with queue := s.engine.queue.tail, work := .idle }

/-- The completion of the running job `j` with verdict `v`, in an event before which `n` spares were
CLEAR. A voided job delivers nothing. A grant rechecks the CLEAR spares. -/
def State.completeJob (s : State) (j : Job) (v : Verdict) (n : Nat) : State :=
  if j.void then s.dropHead
  else
    let t := s.dropHead.deliver j v
    (if v.isPass then t.recheck else t).lowPoolSince n

/-- The engine takes up work `w`. -/
def State.setWork (s : State) (w : Work) : State := s.setEngine { s.engine with work := w }

/-- The sweep work the engine finds when it looks: a unit starts, or the pass is finished (R43, R97). -/
def State.lookForSweep (s : State) : State :=
  if s.pool.sweepWanted then
    match s.pool.nextSweep with
    | some (sp, slot) =>
      (s.setPool { s.pool.mark slot .sweep with sweepPos := slot + 1 }).setWork
        (.sweep s.occupied slot (s.spareCandidate sp))
    | none => s.setPool { s.pool with sweepWanted := false, sweepPos := 0 }
  else s

/-- An idle engine chooses its next work (R42, R43): the head job, which completes at once where it is a
pool job and no spare matches it (R60); otherwise sweep work. At most `n` choices are made. -/
def State.nextWork : Nat → State → State
  | 0, s => s
  | n + 1, s =>
    match s.engine.queue with
    | [] => s.lookForSweep
    | j :: _ =>
      match j.step with
      | some _ => s.setWork (.job s.occupied none 0)
      | none =>
        match s.pool.pick j with
        | some slot => (s.setPool (s.pool.mark slot .trial)).setWork (.job s.occupied (some slot) 0)
        | none => State.nextWork n (s.completeJob j (.noSpare 0) s.pool.clearCount)

/-- An engine that is IDLE chooses its next work. -/
def State.engineKick (s : State) : State :=
  if s.engine.work = .idle then State.nextWork (s.engine.queue.length + 1) s else s

/-- The running job, if the engine runs one that has this trial. -/
def Engine.running (e : Engine) : Option (Job × List Party × Option Nat × Nat) :=
  match e.work, e.queue with
  | .job occ trial failures, j :: _ => some (j, occ, trial, failures)
  | _, _ => none

/-- The check of a job with a step completes (R44). -/
def State.checkCompletes (s : State) : State :=
  match s.engine.running with
  | some (j, occ, none, _) =>
    match j.step with
    | some f =>
      s.completeJob j ((s.check occ (s.jobCandidate j f)).verdict f) s.pool.clearCount
    | none => s
  | _ => s

/-- A failed trial of spare `sp` in `slot`, the `failures`th of the job: NO_SPARE at the fourth or where
no further spare matches, otherwise the next trial begins (R60, R100). -/
def State.trialFails (s : State) (j : Job) (occ : List Party) (slot : Nat) (sp : Spare)
    (failures : Nat) : State :=
  let t := s.setPool (s.pool.setSlot slot (some { sp.spoiled with inUse := .none }))
  if 4 ≤ failures then t.completeJob j (.noSpare failures) s.pool.clearCount
  else
    match t.pool.pick j with
    | none => t.completeJob j (.noSpare failures) s.pool.clearCount
    | some next =>
      ((t.setPool (t.pool.mark next .trial)).setWork (.job occ (some next) failures)).lowPoolSince
        s.pool.clearCount

/-- The trial of a pool job ends (R60, R63, R100). -/
def State.trialEnds (s : State) : State :=
  match s.engine.running with
  | some (j, occ, some slot, failures) =>
    match s.pool.slots.get slot none with
    | none => s
    | some sp =>
      if j.void then (s.setPool (s.pool.mark slot .none)).dropHead
      else
        match s.check occ (s.jobCandidate j sp.step) with
        | .pass m t =>
          (s.setPool (s.pool.setSlot slot none)).completeJob j (.pass sp.step m t) s.pool.clearCount
        | .fail _ => s.trialFails j occ slot sp (failures + 1)
  | _ => s

/-- A sweep unit completes: its result is applied if the slot still holds the spare it started with, the
one marked SWEEP (R61, R98). -/
def State.sweepCompletes (s : State) : State :=
  match s.engine.work with
  | .sweep occ slot c =>
    let t := s.setWork .idle
    match s.pool.slots.get slot none with
    | some sp =>
      if sp.inUse = .sweep then
        (t.setPool (t.pool.setSlot slot (some { (s.check occ c).apply sp with inUse := .none }))).lowPoolSince
          s.pool.clearCount
      else t
    | none => t
  | _ => s

end Sys2Proof.Machine
end

