-- ==== Sys2Proof/Machine/Sending.lean ====
section
/-! DEFINITION. What the Radio Port and the Matrix Port send (chapter 9), and the end of an event, at
which the engine, the Radio Port and the Matrix Port begin what the event has made possible. -/

namespace Sys2Proof.Machine

open Sys2Proof

/-- The numbers below `n` in scan order: from the one above `pos`, wrapping, to `pos` itself. -/
def scanOrder (n pos : Nat) : List Nat := (List.range n).map fun i => (pos + 1 + i) % n

/-! ### The Radio Port (R170 to R172) -/

/-- A TUNE begins: the order is no longer owed and the SETTLE timer starts (R77, R172). -/
def State.beginTune (s : State) (h step : Nat) : State :=
  let l := s.link h
  (s.setLink h { l with
      order := none, timer := some ⟨.settle, s.now + s.engine.prof.allowance⟩ }).setRadio
    { s.radio with scan := h, sending := some (.tune h step (l.cls.getD 0)) }

/-- A MUTE begins: the order is no longer owed and the RELEASE timer starts (R77, R172). -/
def State.beginMute (s : State) (h : Nat) : State :=
  (s.setLink h { s.link h with
      order := none, timer := some ⟨.release, s.now + s.engine.prof.allowance⟩ }).setRadio
    { s.radio with scan := h, sending := some (.mute h) }

/-- A LAMP begins, with the lamp value of this event, which becomes the last lamp sent (R128, R172). -/
def State.beginLamp (s : State) (h : Nat) : State :=
  let l := s.link h
  (s.setLink h { l with lampOwed := false, lastLamp := l.lamp }).setRadio
    { s.radio with scan := h, sending := some (.lamp h l.lamp) }

/-- A PLAN begins, with the Active Plan and the plan number of this event (R172). -/
def State.beginPlan (s : State) : State :=
  s.setRadio { s.radio with
    planOwed := false, sending := some (.plan s.plans.number s.plans.active) }

/-- A record is served: its order first, otherwise its LAMP (R171). -/
def State.serve (s : State) (h : Nat) : State :=
  match (s.link h).order with
  | some (.tune f) => s.beginTune h f
  | some .mute => s.beginMute h
  | none => s.beginLamp h

/-- The record the scan serves next (R171). -/
def State.nextServed (s : State) : Option Nat :=
  (scanOrder 160 s.radio.scan).find? fun h => (s.link h).sendable

/-- An IDLE transmitter with CTS asserted begins one sendable message: a PLAN first (R170, R171). -/
def State.radioKick (s : State) : State :=
  if s.radio.sending.isNone && s.radio.cts then
    if s.radio.planOwed then s.beginPlan
    else
      match s.nextServed with
      | some h => s.serve h
      | none => s
  else s

/-! ### The Matrix Port (R154, R178) -/

/-- Route owed is set for every destination whose talking set differs from what it was in `s0` (R154). -/
def State.oweRoutes (s0 s : State) : State :=
  s.setMtx { s.mtx with owed := s.mtx.owed.mapIdx fun id o =>
    o || s0.talk.talking id != s.talk.talking id }

/-- The ROUTE of a destination as it stands (R178). -/
def Talk.route (t : Talk) (id : Nat) : Route where
  dest := id
  keys := (t.talking id).filterMap fun k => (t.key k).map fun x => (k, x.origin)

/-- A ROUTE begins. -/
def State.beginRoute (s : State) (id : Nat) : State :=
  s.setMtx { s.mtx with
    owed := s.mtx.owed.set id false, scan := id, sending := some (s.talk.route id) }

/-- An IDLE transmitter begins the ROUTE of the next destination in the scan that is owed one (R178). -/
def State.matrixKick (s : State) : State :=
  if s.mtx.sending.isNone then
    match (scanOrder 32 s.mtx.scan).find? fun id => s.mtx.owed.get id false with
    | some id => s.beginRoute id
    | none => s
  else s

/-! ### The end of an event -/

/-- What an event that began in `s0` and has left `s` makes possible begins within it: engine work (R42,
R43), a message to the rack (R170), and, once route owed is settled (R154), a ROUTE (R178). -/
def State.finish (s0 s : State) : State :=
  (State.oweRoutes s0 s.engineKick.radioKick).matrixKick

/-- An accepted request whose effects end as an event does. -/
def State.done (s0 s : State) (st : Status) (body : RespBody) : Answer := ⟨State.finish s0 s, st, body⟩

/-- A timer or an expiry is reached: the timebase stands at its deadline at least (log entry 1). -/
def State.reachTime (s : State) (deadline : Nat) : State := s.setNow (max s.now deadline)

end Sys2Proof.Machine
end

