-- ==== Sys2Proof/Machine/Admission.lean ====
section
/-! DEFINITION. The requests of chapter 4, the answers to a referral, the reports TUNED and MUTED, and the
expiry of a link's timer. -/

namespace Sys2Proof.Machine

open Sys2Proof

/-! ### ADMIT (R65) -/

/-- The lowest FREE handle (R30). -/
def State.lowestFree (s : State) : Option Nat := s.findLink fun l => l.state == .free

/-- An argument of ADMIT is out of range or badly formed (R65, step 1). -/
def admitArgsOk (a : AdmitArgs) : Bool :=
  (linkKindOf a.kind).isSome && classOk a.cls && zonesOk a.zones && labelOk a.label
    && (policyOf a.policy).isSome && stepOrPoolOk a.step

/-- The record an accepted ADMIT writes. -/
def Link.checking (a : AdmitArgs) : Link :=
  { Link.free with
    state := .checking, kind := linkKindOf a.kind, cls := some a.cls, zones := a.zones,
    label := a.label, policy := policyOf a.policy,
    job := some (if (jobStep a.step).isSome then .admission else .admissionPool) }

/-- The job an accepted ADMIT offers. -/
def admitJob (h : Nat) (a : AdmitArgs) : Job where
  kind := if (jobStep a.step).isSome then .admission else .admissionPool
  handle := h
  step := jobStep a.step
  cls := a.cls
  zones := a.zones
  forced := false
  void := false

/-- ADMIT at the Link Table (R65). -/
def ownAdmit (a : AdmitArgs) (s : State) : Answer :=
  if !admitArgsOk a then s.refuse .badArgument
  else if (s.labelled a.label).isSome then s.refuse .duplicate
  else
    match s.lowestFree with
    | none => s.refuse .tableFull
    | some h =>
      if s.engine.full then s.refuse .queueFull
      else State.done s ((s.setLink h (Link.checking a)).offer (admitJob h a)) .queued (.handle h)

/-- ADMIT (R65). -/
def execAdmit (b : ReqBody AdmitArgs) (s : State) : Host.Outcome State Fault Refusal :=
  .next (s.take 12 false b ownAdmit)

/-! ### RETUNE and MOVE ZONES (R69, R72) -/

/-- A job for a link, with the class and zones of its record (R39). -/
def Link.jobOf (l : Link) (kind : JobKind) (h : Nat) (step : Option Nat) (forced : Bool) : Job where
  kind := kind
  handle := h
  step := step
  cls := l.cls.getD 0
  zones := l.zones
  forced := forced
  void := false

/-- The record of a link whose retune is being checked. -/
def Link.toRecheck (l : Link) (kind : JobKind) (step : Option Nat) (forced : Bool) : Link :=
  { l with state := .recheck, job := some kind, target := step, forced := l.forced || forced,
           timer := none }

/-- A link becomes RECHECK and its job is offered (R69, R107). -/
def State.askRetune (s : State) (h : Nat) (l : Link) (kind : JobKind) (step : Option Nat)
    (forced : Bool) : State :=
  (s.setLink h (l.toRecheck kind step forced)).offer (l.jobOf kind h step forced)

/-- RETUNE or RETUNE-POOL. -/
def retuneKind (step : Option Nat) : JobKind := if step.isSome then .retune else .retunePool

/-- RETUNE at the Link Table (R69). -/
def ownRetune (a : RetuneArgs) (s : State) : Answer :=
  s.withLink a.handle (stepOrPoolOk a.step) fun l =>
    if l.state ≠ .active ∧ l.state ≠ .referred then s.refuse .busy
    else if s.engine.full then s.refuse .queueFull
    else
      State.done s
        (s.askRetune a.handle l (retuneKind (jobStep a.step)) (jobStep a.step) (isOn a.force))
        .queued .empty

/-- RETUNE (R69). -/
def execRetune (b : ReqBody RetuneArgs) (s : State) : Host.Outcome State Fault Refusal :=
  .next (s.take 13 false b ownRetune)

/-- The job of MOVE ZONES: the link's own carrier with the new zone set (R59). -/
def Link.moveJob (l : Link) (h : Nat) (z : ZoneSet) : Job :=
  { l.jobOf .move h (some (l.carrier.getD 0)) false with zones := z }

/-- MOVE ZONES at the Link Table (R72). -/
def ownMoveZones (a : ZonesArgs) (s : State) : Answer :=
  s.withLink a.handle (zonesOk a.zones) fun l =>
    if l.state ≠ .active then s.refuse .busy
    else if s.engine.full then s.refuse .queueFull
    else
      State.done s
        ((s.setLink a.handle { l with state := .recheck, job := some .move }).offer
          (l.moveJob a.handle a.zones)) .queued .empty

/-- MOVE ZONES (R72). -/
def execMoveZones (b : ReqBody ZonesArgs) (s : State) : Host.Outcome State Fault Refusal :=
  .next (s.take 14 false b ownMoveZones)

/-! ### CANCEL RETUNE and TUNE NOW (R75, R76) -/

/-- A request that only a link in RETUNE_WAIT takes. -/
def State.whileWaiting (s : State) (h : Nat) (k : Link → Answer) : Answer :=
  s.withLink h true fun l =>
    if l.state = .settling ∨ l.state = .reverting then s.refuse .tooLate
    else if l.state ≠ .retuneWait then s.refuse .busy
    else k l

/-- CANCEL RETUNE at the Link Table (R75). -/
def ownCancelRetune (h : Nat) (s : State) : Answer :=
  s.whileWaiting h fun l =>
    State.done s
      ((s.setLink h { l with state := .active, target := none, forced := false }).wantSweep) .ok .empty

/-- CANCEL RETUNE (R75). -/
def execCancelRetune (b : ReqBody Nat) (s : State) : Host.Outcome State Fault Refusal :=
  .next (s.take 15 false b ownCancelRetune)

/-- TUNE NOW at the Link Table (R76). -/
def ownTuneNow (h : Nat) (s : State) : Answer :=
  s.whileWaiting h fun l =>
    State.done s
      (s.setLink h { l with
        state := .settling, forced := true, order := l.target.map .tune, timer := none }) .ok .empty

/-- TUNE NOW (R76). -/
def execTuneNow (b : ReqBody Nat) (s : State) : Host.Outcome State Fault Refusal :=
  .next (s.take 16 false b ownTuneNow)

/-! ### RETIRE and DISCARD (R83, R87) -/

/-- RETIRE of a CHECKING link: its job is voided and it enters FREE. -/
def State.retireChecking (s : State) (h : Nat) : State := (s.voidJob h).enterFree h

/-- RETIRE of a RECHECK link: its job is voided and the candidate target dropped, then as ACTIVE. -/
def State.retireRecheck (s : State) (h : Nat) (l : Link) : State :=
  (s.voidJob h).enterReleasing h { l with target := none, job := none }

/-- RETIRE of a RETUNE_WAIT link with FORCE: the target leaves the occupied set. -/
def State.retireWaiting (s : State) (h : Nat) (l : Link) : State :=
  (s.enterReleasing h { l with target := none }).wantSweep

/-- RETIRE by state, with and without FORCE (R83). -/
def retireBy (h : Nat) (force : Bool) (s : State) (l : Link) : Answer :=
  match l.state with
  | .free => s.refuse .noLink
  | .checking => State.done s (s.retireChecking h) .ok .empty
  | .recheck =>
    if s.onAir h && !force then s.refuse .onAir else State.done s (s.retireRecheck h l) .ok .empty
  | .active =>
    if s.onAir h && !force then s.refuse .onAir else State.done s (s.enterReleasing h l) .ok .empty
  | .referred =>
    if s.onAir h && !force then s.refuse .onAir else State.done s (s.enterReleasing h l) .ok .empty
  | .retuneWait =>
    if !force then s.refuse .onAir else State.done s (s.retireWaiting h l) .ok .empty
  | .settling =>
    if !force then s.refuse .busy else State.done s (s.enterReleasing h l) .ok .empty
  | .reverting =>
    if !force then s.refuse .busy else State.done s (s.enterReleasing h l) .ok .empty
  | .releasing => s.refuse .busy
  | .lost => State.done s (s.enterReleasing h l) .ok .empty

/-- RETIRE at the Link Table (R83). -/
def ownRetire (a : FlagArgs) (s : State) : Answer :=
  s.withLink a.handle true (retireBy a.handle (isOn a.on) s)

/-- RETIRE (R83). -/
def execRetire (b : ReqBody FlagArgs) (s : State) : Host.Outcome State Fault Refusal :=
  .next (s.take 17 false b ownRetire)

/-- DISCARD at the Link Table (R87). -/
def ownDiscard (h : Nat) (s : State) : Answer :=
  s.withLink h true fun l =>
    if l.state ≠ .lost then s.refuse .busy else State.done s (s.enterFree h) .ok .empty

/-- DISCARD (R87). -/
def execDiscard (b : ReqBody Nat) (s : State) : Host.Outcome State Fault Refusal :=
  .next (s.take 18 false b ownDiscard)

/-! ### Referrals answered and declined (R107, R108) -/

/-- A request that only an open referral takes. -/
def State.withReferral (s : State) (h : Nat) (argsOk : Bool) (k : Link → Answer) : Answer :=
  if !handleOk h || !argsOk then s.refuse .badArgument
  else if (s.link h).state ≠ .referred then s.refuse .noReferral
  else k (s.link h)

/-- ANSWER REFERRAL at the Link Table (R107). -/
def ownAnswerReferral (a : HandleStep) (s : State) : Answer :=
  s.withReferral a.handle (stepOk a.step) fun l =>
    if s.engine.full then s.refuse .queueFull
    else State.done s (s.askRetune a.handle l .retune (some a.step) false) .queued .empty

/-- ANSWER REFERRAL (R107). -/
def execAnswerReferral (b : ReqBody HandleStep) (s : State) : Host.Outcome State Fault Refusal :=
  .next (s.take 23 false b ownAnswerReferral)

/-- DECLINE REFERRAL at the Link Table (R108). -/
def ownDeclineReferral (h : Nat) (s : State) : Answer :=
  s.withReferral h true fun l => (s.setLink h { l with state := .active, timer := none }).ok

/-- DECLINE REFERRAL (R108). -/
def execDeclineReferral (b : ReqBody Nat) (s : State) : Host.Outcome State Fault Refusal :=
  .next (s.take 24 false b ownDeclineReferral)

/-! ### TUNED and MUTED (R78 to R82, R85, R86) -/

/-- The states in which a TUNED is matched (R78). -/
def LinkState.awaitsTuned : LinkState → Bool
  | .settling => true
  | .reverting => true
  | .lost => true
  | _ => false

/-- A TUNED at a record: matched against the target first, then against the carrier (R78); the field matched
decides the notice, also for a LOST link that came from RELEASING with a target alone (R86, log entry 15). -/
def State.tunedAt (s : State) (h step : Nat) : State :=
  let l := s.link h
  if !l.state.awaitsTuned then s
  else if l.target = some step then
    State.finish s ((s.reachActive h l step).notify (.retuneDone h step l.carrier.isNone))
  else if l.carrier = some step then
    State.finish s ((s.reachActive h l step).notify (.retuneReverted h step l.target))
  else s

/-- A MUTED at a record frees a RELEASING or LOST link (R85, R86). -/
def State.mutedAt (s : State) (h : Nat) : State :=
  let l := s.link h
  if l.state = .releasing ∨ l.state = .lost then
    State.finish s ((s.enterFree h).notify (.released h l.label))
  else s

/-! ### Timer expiries (R80 to R82, R85, R109) -/

/-- The SETTLE timer of a link expires (R80, R81, R82). -/
def State.settleExpires (s : State) (h : Nat) (l : Link) : State :=
  match l.state with
  | .settling =>
    if l.carrier.isSome then
      s.setLink h { l with
        state := .reverting, order := l.carrier.map .tune, timer := none, tries := 0 }
    else if l.tries = 0 then
      s.setLink h { l with order := l.target.map .tune, tries := 1, timer := none }
    else s.enterLost h l
  | .reverting => s.enterLost h l
  | _ => s

/-- The RELEASE timer of a link expires (R85). -/
def State.releaseExpires (s : State) (h : Nat) (l : Link) : State :=
  if l.state = .releasing then
    if l.tries = 0 then s.setLink h { l with order := some .mute, tries := 1, timer := none }
    else s.enterLost h l
  else s

/-- The REFERRAL timer of a link expires (R109). -/
def State.referralExpires (s : State) (h : Nat) (l : Link) : State :=
  if l.state = .referred then
    (s.setLink h { l with state := .active, timer := none }).notify
      (.referralExpired h (l.carrier.getD 0) l.interference)
  else s

/-- An expiry is taken where the record's timer is of its kind; the timebase has then reached the
deadline. -/
def State.expiry (s : State) (h : Nat) (kind : TimerKind) (k : State → Nat → Link → State) : State :=
  s.event fun s =>
    match (s.link h).timer with
    | some t => if t.kind = kind then State.finish s (k (s.reachTime t.deadline) h (s.link h)) else s
    | none => s

/-- SETTLE timer expiry (R80). -/
def execSettleTimerExpiry (h : Nat) (s : State) : Host.Outcome State Fault Refusal :=
  .next (s.expiry h .settle State.settleExpires)

/-- RELEASE timer expiry (R85). -/
def execReleaseTimerExpiry (h : Nat) (s : State) : Host.Outcome State Fault Refusal :=
  .next (s.expiry h .release State.releaseExpires)

/-- REFERRAL timer expiry (R109). -/
def execReferralTimerExpiry (h : Nat) (s : State) : Host.Outcome State Fault Refusal :=
  .next (s.expiry h .referral State.referralExpires)

end Sys2Proof.Machine
end

