-- ==== Sys2Proof/Machine/Layout.lean ====
section
/-! DEFINITION. The bytes of messages: the fields of Table 11-2, the enumerations of Table 11-3, the
items a collect presents (Table 11-1) and the messages that leave on RTX and MTX (Table 11-5). Where no
rule gives a body's layout, the fields stand in the order the owning rule names them, a list after a byte
that counts it (log entry 10). -/

namespace Sys2Proof.Machine

open Sys2Proof

/-! ### Fields (Table 11-2) -/

/-- One byte. -/
def byte (n : Nat) : List Byte := [BitVec.ofNat 8 n]

/-- Two bytes, the most significant first. -/
def word (n : Nat) : List Byte := byte (n / 256) ++ byte n

/-- Three bytes, the most significant first. -/
def triple (n : Nat) : List Byte := byte (n / 65536) ++ word n

/-- A one-byte field that may be absent. -/
def optField (n : Option Nat) : List Byte := byte (n.getD 255)

/-- A step field that may be absent. -/
def optStep (n : Option Nat) : List Byte := triple (n.getD 16777215)

/-- A flag. -/
def flag (b : Bool) : List Byte := byte b.toNat

/-- A milliseconds field of two bytes, 65535 for absent; a time above 65534 cannot be running. -/
def ms2 (n : Option Nat) : List Byte := word ((n.map (min 65534)).getD 65535)

/-- A milliseconds field of three bytes. -/
def ms3 (n : Option Nat) : List Byte := triple (n.getD 16777215)

/-- A label: its count and its characters. -/
def labelField (l : List Nat) : List Byte := byte l.length ++ l.flatMap byte

/-- A list after its count. -/
def counted {α : Type} (f : α → List Byte) (l : List α) : List Byte := byte l.length ++ l.flatMap f

/-- Bits as a number, the first one bit 0. -/
def bitsOf : List Bool → Nat
  | [] => 0
  | b :: bs => b.toNat + 2 * bitsOf bs

/-! ### Enumerations (Table 11-3) -/

def LinkKind.code : LinkKind → Nat
  | .camera => 0
  | .mic => 1
  | .iem => 2
  | .beltpack => 3
  | .base => 4

def Policy.code : Policy → Nat
  | .auto => 0
  | .refer => 1
  | .none => 2

def JobKind.code : JobKind → Nat
  | .admission => 0
  | .admissionPool => 1
  | .retune => 2
  | .retunePool => 3
  | .auto => 4
  | .move => 5

def sourceCode : Source → Nat
  | .main => 0
  | .sub1 => 1
  | .sub2 => 2

def Tally.code : Tally → Nat
  | .none => 0
  | .iso => 1
  | .pvw => 2
  | .pgm => 3

def SrcState.code : SrcState → Nat
  | .absent => 0
  | .awaiting => 1
  | .live => 2
  | .stale => 3

def Test.code : Test → Nat
  | .spacing => 3
  | .im32V => 4
  | .im33V => 5
  | .im5V => 6
  | .im32C => 7
  | .im33C => 8
  | .im5C => 9

def Mode.code : Mode → Nat
  | .nested => 0
  | .level => 1
  | .conference => 2

def DestKind.code : DestKind → Nat
  | .ifb => 0
  | .panel => 1
  | .group => 2

def KeyType.code : KeyType → Nat
  | .momentary => 0
  | .latch => 1

def KeyState.code : KeyState → Nat
  | .idle => 0
  | .waiting => 1
  | .talking => 2
  | .disabled => 3

def PlanState.code : PlanState → Nat
  | .idle => 0
  | .commitWait => 1

def Edge.code : Edge → Nat
  | .low => 0
  | .high => 1

def SpareStatus.code : SpareStatus → Nat
  | .unchecked => 0
  | .clear => 1
  | .spoiled => 2

def InUse.code : InUse → Nat
  | .none => 0
  | .trial => 1
  | .sweep => 2

def Colour.code : Colour → Nat
  | .off => 0
  | .red => 1
  | .green => 2
  | .yellow => 3

/-- Table 10-4. -/
def Status.code : Status → Nat
  | .ok => 0
  | .queued => 1
  | .notConfigured => 2
  | .unknownRequest => 3
  | .badArgument => 4
  | .noLink => 5
  | .busy => 6
  | .onAir => 7
  | .queueFull => 8
  | .tableFull => 9
  | .duplicate => 10
  | .conflict => 11
  | .tooLate => 12
  | .noReferral => 13
  | .notEmpty => 14

/-- A lamp value (Table 11-2). -/
def Lamp.code (l : Lamp) : Nat := l.colour.code + 128 * l.flash.toNat

/-- A key origin: its kind and two bytes. -/
def Origin.bytes : Origin → List Byte
  | .panel p b => byte 0 ++ byte p ++ byte b
  | .pack h k => byte 1 ++ byte h ++ byte k

def Binding.bytes (b : Binding) : List Byte := byte (sourceCode b.source) ++ byte b.input

/-! ### Verdicts (R56, R57, R60, R68) -/

/-- What names a carrier: its handle and ordinal (R56), or the mark of the candidate (log entry 5). That an
ordinal, which Table 11-2 does not list, takes one byte is a DESIGN CHOICE (log entry 10). -/
def TermKey.bytes : TermKey → List Byte
  | .candidate => [Config.candidateMark.1, Config.candidateMark.2]
  | .held h o => byte h ++ byte o

/-- A test and the carriers of its term (R56, R57). That the keys stand in one list after a byte that counts
them, the contributors in written order with the victim's key last among them, and that the single key of
SPACING and the empty list of NONE carry that byte too, is a DESIGN CHOICE (log entry 10). -/
def TermRef.bytes (t : TermRef) : List Byte := byte t.test.code ++ counted TermKey.bytes t.keys

/-- A failure: its test and what it names. -/
def FailDetail.bytes : FailDetail → List Byte
  | .span e f => byte 1 ++ byte e.code ++ triple f
  | .blocked k => byte 2 ++ byte k
  | .term t => t.bytes

/-- A verdict; a PASS at an unbounded margin names test 0. No rule gives the place of the verdict code: that
it stands first here, after the kind, handle and forced flag of a CHECK_RESULT, is a DESIGN CHOICE (log entry
10). -/
def Verdict.bytes : Verdict → List Byte
  | .pass f m t => byte 0 ++ triple f ++ word m ++ (match t with | some r => r.bytes | none => byte 0 ++ byte 0)
  | .fail f d => byte 1 ++ triple f ++ d.bytes
  | .noSpare n => byte 2 ++ byte n

/-! ### Reports -/

/-- The QUERY LINK report (Table 11-4). -/
def LinkReport.bytes (r : LinkReport) : List Byte :=
  byte r.handle ++ byte r.link.state.code ++ optField (r.link.kind.map (·.code)) ++ optField r.link.cls
    ++ [r.link.zones] ++ byte r.link.label.length
    ++ ((r.link.label ++ List.replicate 8 0).take 8).flatMap byte
    ++ optField (r.link.policy.map (·.code)) ++ optStep r.link.carrier ++ optStep r.link.target
    ++ byte (bitsOf [r.carrierHeld, r.targetHeld, r.link.forced, r.link.lampOwed, r.link.signalLost,
        r.link.stale, r.link.suppress, r.link.holdLive])
    ++ optField (r.link.job.map (·.code)) ++ byte r.link.tries
    ++ (match r.link.order with
        | none => byte 0 ++ optStep none
        | some (.tune f) => byte 1 ++ triple f
        | some .mute => byte 2 ++ optStep none)
    ++ byte (match r.link.timer with
        | none => 0
        | some t => match t.kind with | .settle => 1 | .release => 2 | .referral => 3)
    ++ ms2 r.remaining ++ byte r.link.interference ++ byte r.link.bindings.length
    ++ (match r.link.bindings[0]? with | some b => b.bytes | none => byte 255 ++ byte 255)
    ++ (match r.link.bindings[1]? with | some b => b.bytes | none => byte 255 ++ byte 255)
    ++ byte r.link.tally.code ++ byte r.link.lastLamp.code ++ flag r.onAir

/-- A stored profile, in the order of Table 1-2. -/
def Profile.bytes (p : Profile) : List Byte :=
  triple p.spanLow ++ triple p.spanHigh ++ triple p.origin ++ byte p.widthCode ++ word p.gcc
    ++ word p.g3 ++ word p.g5 ++ flag p.im5 ++ byte p.settle ++ byte p.window
    ++ p.classes.rows.flatMap fun c => word c.halfWidth ++ flag c.contributes

/-- A spare with its slot (R94). -/
def spareBytes (x : Nat × Spare) : List Byte :=
  byte x.1 ++ triple x.2.step ++ byte x.2.cls ++ [x.2.zones] ++ byte x.2.status.code
    ++ word (x.2.margin.getD 65535) ++ byte x.2.inUse.code

/-- The READ POOL report (R94). -/
def PoolReport.bytes (r : PoolReport) : List Byte :=
  byte r.threshold ++ flag r.armed ++ flag r.sweepWanted ++ byte r.clear ++ byte r.unchecked
    ++ byte r.spoiled ++ byte r.free ++ counted spareBytes r.entries ++ optField r.next

/-- A cascade field (Table 11-2). That the input byte of a standalone one is sent as 0, where the table says
only that it is ignored, is a DESIGN CHOICE (log entry 10). -/
def Cascade.bytes : Cascade → List Byte
  | .standalone => byte 255 ++ byte 0
  | .into y k => byte (sourceCode y) ++ byte k

/-- The cascade field of a subsidiary, where it is present (R130). -/
def cascadeBytes : Option Cascade → List Byte
  | none => []
  | some c => c.bytes

/-- The map as stored, in the order R110 and R130 name its fields: an absent subsidiary has no cascade. -/
def TallyMap.bytes (m : TallyMap) : List Byte :=
  flag m.cascade1.isSome ++ flag m.cascade2.isSome ++ cascadeBytes m.cascade1 ++ cascadeBytes m.cascade2
    ++ word m.live0 ++ word m.live1 ++ word m.live2 ++ flag m.protectIso

/-- The sources of READ TALLY in the order R130 names their fields: every state, then the time remaining of
each present source, then the two lists of each present source. -/
def sourcesBytes (l : List SrcReport) : List Byte :=
  let here := l.filter fun r => r.state != .absent
  l.flatMap (fun r => byte r.state.code) ++ here.flatMap (fun r => ms2 r.remaining)
    ++ here.flatMap fun r => counted byte r.program ++ counted byte r.preview

/-- The stored fields of a destination (R135). That the OK of DEFINE DEST carries these alone, without the
destination id, is a DESIGN CHOICE (log entry 10). -/
def Dest.bytes (d : Dest) : List Byte :=
  byte d.kind.code ++ optField d.target ++ optField d.watch ++ byte d.mode.code ++ byte d.limit
    ++ optField d.threshold ++ flag d.rotation ++ word d.talkLimit

/-- The QUERY DEST report of a defined destination (R155). -/
def DestReport.bytes (r : DestReport) : List Byte :=
  r.dest.bytes ++ flag r.dest.routed ++ flag r.dest.restricted
    ++ counted (fun x => byte x.1 ++ ms3 x.2) r.talking ++ counted byte r.dest.waiting
    ++ counted byte r.dest.requests ++ r.ringSizes.flatMap byte

/-- The QUERY KEY report of a defined key (R156). That a place takes one byte and an absent request place is
sent as 255, where Table 11-2 lists no place, are DESIGN CHOICES (log entry 10). -/
def KeyReport.bytes (r : KeyReport) : List Byte :=
  r.key.origin.bytes ++ byte r.key.dest ++ byte r.key.level ++ byte r.key.type.code
    ++ byte r.key.state.code ++ optField r.requestPlace ++ byte r.ringPlace ++ ms3 r.remaining

/-- A COMMIT offence (R161). -/
def Offence.bytes : Offence → List Byte
  | .destKind slot d => byte 1 ++ byte slot ++ byte d
  | .destRepeated lower slot d => byte 2 ++ byte lower ++ byte slot ++ byte d
  | .packKind h => byte 3 ++ byte h
  | .packState h st => byte 4 ++ byte h ++ byte st.code
  | .upShared u lower h => byte 5 ++ byte u ++ byte lower ++ byte h

/-- A pack entry. -/
def Pack.bytes (e : Pack) : List Byte := byte e.handle ++ word e.listen.toNat ++ optField e.up

/-- The READ PLAN report (R167). -/
def PlanReport.bytes (r : PlanReport) : List Byte :=
  byte r.state.code ++ word r.number.toNat ++ r.down.rows.flatMap optField ++ byte r.total
    ++ counted Pack.bytes r.entries ++ optField r.next

/-- The READ SUMMARY report (R190). -/
def SummaryReport.bytes (r : SummaryReport) : List Byte :=
  flag r.configured ++ word r.carriers ++ r.links.flatMap byte ++ byte r.queueDepth ++ byte r.clearSpares
    ++ byte r.otherSpares ++ byte r.noticeDepth ++ r.sources.flatMap (fun x => byte x.code)
    ++ byte r.planState.code ++ flag r.planOwed ++ flag r.cts ++ flag r.noticesLost ++ flag r.portError

/-! ### Bodies and items (Table 11-1) -/

/-- The body of a response. That the field number in LOAD PROFILE's BAD_ARGUMENT (R3), for which Table 11-2
lists no encoding, takes one byte is a DESIGN CHOICE (log entry 10), and so is the one byte of the length mark
(log entry 4). -/
def RespBody.bytes : RespBody → List Byte
  | .empty => []
  | .lengthField => [Config.lengthMark]
  | .fieldNumber n => byte n
  | .profile p => p.bytes
  | .profileMap p l => p.bytes ++ counted byte l
  | .carrierAt h o f => byte h ++ byte o ++ triple f
  | .handle h => byte h
  | .link r => r.bytes
  | .frequency n l => byte n ++ counted byte l
  | .links l n => counted byte l ++ optField n
  | .slot n => byte n
  | .pool r => r.bytes
  | .threshold n => byte n
  | .tallyMap m => m.bytes
  | .tally m l => (match m with | some m => flag true ++ m.bytes | none => flag false)
      ++ sourcesBytes l
  | .keyId k => byte k
  | .destFields d => d.bytes
  | .dest id r owed => byte id ++ flag r.isSome
      ++ (match r with | some r => r.bytes | none => []) ++ flag owed
  | .key id r => byte id ++ flag r.isSome ++ (match r with | some r => r.bytes | none => [])
  | .offence o => o.bytes
  | .planNumber n => word n.toNat
  | .plan r => r.bytes
  | .summary r => r.bytes

/-- The carriers held, each its step with its ordinal, as R174 names them for CARRIER_LOSS. That they stand
after a count, that LINK_LOST, whose rules name only the carriers held, carries them alike, and that an ordinal
takes one byte are DESIGN CHOICES (log entry 10). -/
def heldBytes (l : List (Nat × Nat)) : List Byte := counted (fun x => triple x.2 ++ byte x.1) l

/-- The reason of a referral (Table 11-3). -/
def Referral.code : Referral → Nat
  | .policy _ => 0
  | .queue _ => 1
  | .pool _ => 2

/-- The severity of the report, or the trials its AUTO job made (R106). -/
def Referral.detail : Referral → Nat
  | .policy n => n
  | .queue n => n
  | .pool n => n

/-- The kind and the body of a notice (Table 10-5), its fields in the order the owning rule names them. That
the CHECK_RESULT of a NO_SPARE carries the job kind and the forced flag as one of a PASS or a FAIL does, where
R68 names the trials and the state alone, and that the admission mark of RETUNE_DONE is a flag, are DESIGN
CHOICES (log entry 10). -/
def Notice.bytes : Notice → List Byte
  | .checkResult k h f v st => byte 1 ++ byte k.code ++ byte h ++ flag f ++ v.bytes ++ byte st.code
  | .retuneDone h f a => byte 2 ++ byte h ++ triple f ++ flag a
  | .retuneReverted h f t => byte 3 ++ byte h ++ triple f ++ optStep t
  | .linkLost h st l => byte 4 ++ byte h ++ byte st.code ++ heldBytes l
  | .released h l => byte 5 ++ byte h ++ labelField l
  | .referral h f r n => byte 6 ++ byte h ++ triple f ++ byte r.code ++ byte n ++ byte r.detail
  | .referralExpired h f n => byte 7 ++ byte h ++ triple f ++ byte n
  | .interference h v n => byte 8 ++ byte h ++ byte v ++ byte n
  | .carrierLoss h st l => byte 9 ++ byte h ++ byte st.code ++ heldBytes l
  | .poolLow n t => byte 10 ++ byte n ++ byte t
  | .sourceStale x => byte 11 ++ byte (sourceCode x)
  | .sourceLive x => byte 12 ++ byte (sourceCode x)
  | .talkTimeout d k o => byte 13 ++ byte d ++ byte k ++ o.bytes
  | .planApplied n a b => byte 14 ++ word n.toNat ++ byte a ++ byte b

/-- The contents of an item. -/
def Item.contents : Item → List Byte
  | .response r => byte r.code ++ byte r.status.code ++ r.body.bytes
  | .notice n => n.bytes
  | .empty => []

/-- The kind byte of an item. -/
def Item.kind : Item → Nat
  | .response _ => 1
  | .notice _ => 2
  | .empty => 3

/-- An item as a collect shifts it out: kind, length and contents (R183). -/
def Item.bytes (i : Item) : List Byte := byte i.kind ++ byte i.contents.length ++ i.contents

/-- The byte SDO carries at place `n` of a collect's item: 255 beyond its end (R183, R192). -/
def Item.sdo (i : Item) (n : Nat) : Byte := i.bytes.getD n 255

/-! ### Bits on the wires (R180, R193) -/

/-- A byte on SDI or SDO: most significant bit first (R180). -/
def controlBits (b : Byte) : List Bool := (List.range 8).map fun i => b.getMsbD i

/-- A byte on a serial line: a start bit, eight data bits, least significant first, and a stop bit, with no
parity (R193). -/
def serialByte (b : Byte) : List LineBit :=
  .start :: ((List.range 8).map fun i => .data (b.getLsbD i)) ++ [.stop]

/-- A message as bit times of its line. -/
def serialBits (m : List Byte) : List LineBit := m.flatMap serialByte

/-! ### Serial line messages (R193, Table 11-5) -/

/-- A message: type, length, body, and the check byte that makes the sum 0 modulo 256. -/
def lineMessage (type : Nat) (body : List Byte) : List Byte :=
  let m := byte type ++ word body.length ++ body
  m ++ [-(m.foldl (· + ·) 0)]

/-- A message as it leaves on RTX (R169). -/
def RackMsg.bytes : RackMsg → List Byte
  | .tune h f c => lineMessage 1 (byte h ++ triple f ++ byte c)
  | .mute h => lineMessage 2 (byte h)
  | .lamp h v => lineMessage 3 (byte h ++ byte v.code)
  | .plan n p => lineMessage 4 (word n.toNat ++ p.down.rows.flatMap optField ++ counted Pack.bytes p.packs)

/-- A ROUTE as it leaves on MTX (R178). -/
def Route.bytes (r : Route) : List Byte :=
  lineMessage 35 (byte r.dest ++ counted (fun x => byte x.1 ++ x.2.bytes) r.keys)

end Sys2Proof.Machine
end

