-- ==== Sys2Proof/Machine/Lookups.lean ====
section
/-! DEFINITION. The requests of chapter 2: the lookups, SET LABEL and SET POLICY. -/

namespace Sys2Proof.Machine

open Sys2Proof

/-- The QUERY LINK report of a handle (R34). -/
def State.linkReport (s : State) (h : Nat) : LinkReport where
  handle := h
  link := s.link h
  carrierHeld := (s.link h).heldCarrier.isSome
  targetHeld := (s.link h).heldTarget.isSome
  remaining := (s.link h).timer.map fun t => s.msTo t.deadline
  onAir := s.onAir h

/-- QUERY LINK at the Link Table (R34). -/
def ownQueryLink (h : Nat) (s : State) : Answer :=
  if handleOk h then s.okWith (.link (s.linkReport h)) else s.refuse .badArgument

/-- QUERY LINK (R34). -/
def execQueryLink (b : ReqBody Nat) (s : State) : Host.Outcome State Fault Refusal :=
  .next (s.take 5 false b ownQueryLink)

/-- FIND LABEL at the Link Table (R35). -/
def ownFindLabel (label : List Nat) (s : State) : Answer :=
  if !labelOk label then s.refuse .badArgument
  else
    match s.labelled label with
    | some h => s.okWith (.handle h)
    | none => s.refuse .noLink

/-- FIND LABEL (R35). -/
def execFindLabel (b : ReqBody (List Nat)) (s : State) : Host.Outcome State Fault Refusal :=
  .next (s.take 6 false b ownFindLabel)

/-- A held carrier of a record covers a step (R36). -/
def Link.covers (p : Profile) (f : Nat) (l : Link) : Bool :=
  l.held.any fun x => decide (((f : Int) - x.2).natAbs ≤ (p.cls (l.cls.getD 0)).halfWidth)

/-- The links with a held carrier covering a step, in handle order. -/
def State.covering (s : State) (f : Nat) : List Nat :=
  (s.links.entries.filter fun x => x.1.covers s.engine.prof f).map (·.2)

/-- FIND FREQUENCY at the Link Table (R36). -/
def ownFindFrequency (f : Nat) (s : State) : Answer :=
  if stepOk f then s.okWith (.frequency (s.covering f).length ((s.covering f).take 4))
  else s.refuse .badArgument

/-- FIND FREQUENCY (R36). -/
def execFindFrequency (b : ReqBody Nat) (s : State) : Host.Outcome State Fault Refusal :=
  .next (s.take 7 false b ownFindFrequency)

/-- FIND BINDING at the Link Table (R37). -/
def ownFindBinding (a : InputArgs) (s : State) : Answer :=
  match bindingOf a.source a.input with
  | none => s.refuse .badArgument
  | some x =>
    match s.boundTo x with
    | some h => s.okWith (.handle h)
    | none => s.refuse .noLink

/-- FIND BINDING (R37). -/
def execFindBinding (b : ReqBody InputArgs) (s : State) : Host.Outcome State Fault Refusal :=
  .next (s.take 8 false b ownFindBinding)

/-- The handles from `start` upward whose state is in the filter. -/
def State.filtered (s : State) (f : BitVec 16) (start : Nat) : List Nat :=
  (s.links.entries.filter fun x => decide (start ≤ x.2) && inFilter f x.1.state).map (·.2)

/-- Where a page of 16 that ends at its last member goes on: one above it, where it is below the last
number of the table (R38, R94, R167). -/
def nextPage (top : Nat) (page : List Nat) : Option Nat :=
  match page.getLast? with
  | some h => if page.length = 16 ∧ h < top then some (h + 1) else none
  | none => none

/-- LIST LINKS at the Link Table (R38). -/
def ownListLinks (a : ListArgs) (s : State) : Answer :=
  let page := (s.filtered a.filter a.start).take 16
  if a.filter.setWidth 10 = 0 ∨ !handleOk a.start then s.refuse .badArgument
  else s.okWith (.links page (nextPage 159 page))

/-- LIST LINKS (R38). -/
def execListLinks (b : ReqBody ListArgs) (s : State) : Host.Outcome State Fault Refusal :=
  .next (s.take 9 false b ownListLinks)

/-- SET LABEL at the Link Table (R32). -/
def ownSetLabel (a : LabelArgs) (s : State) : Answer :=
  s.withLink a.handle (labelOk a.label) fun l =>
    if l.state = .checking then s.refuse .busy
    else if l.label = a.label then s.ok
    else if (s.labelled a.label).isSome then s.refuse .duplicate
    else (s.setLink a.handle { l with label := a.label }).ok

/-- SET LABEL (R32). -/
def execSetLabel (b : ReqBody LabelArgs) (s : State) : Host.Outcome State Fault Refusal :=
  .next (s.take 10 false b ownSetLabel)

/-- SET POLICY at the Link Table (R33). -/
def ownSetPolicy (a : PolicyArgs) (s : State) : Answer :=
  s.withLink a.handle (policyOf a.policy).isSome fun l =>
    if l.state = .checking then s.refuse .busy
    else (s.setLink a.handle { l with policy := policyOf a.policy }).ok

/-- SET POLICY (R33). -/
def execSetPolicy (b : ReqBody PolicyArgs) (s : State) : Host.Outcome State Fault Refusal :=
  .next (s.take 11 false b ownSetPolicy)

end Sys2Proof.Machine
end

