-- ==== Sys2Proof/Machine/Control.lean ====
section
/-! DEFINITION. READ SUMMARY, the transactions of the Control Port that reach no other block, and the
RESET# pin (chapters 10 and 11). -/

namespace Sys2Proof.Machine

open Sys2Proof

/-! ### READ SUMMARY (R190) -/

/-- The number of links in a state. -/
def State.linkCount (s : State) (st : LinkState) : Nat :=
  (s.links.rows.filter fun l => l.state == st).length

/-- The summary of a CONFIGURED part. -/
def State.summaryConfigured (s : State) : SummaryReport where
  configured := true
  carriers := s.occupied.length
  links := LinkState.all.map s.linkCount
  queueDepth := s.engine.queue.length
  clearSpares := s.pool.clearCount
  otherSpares := s.pool.spares.length - s.pool.clearCount
  noticeDepth := s.port.notices.length
  sources := [s.tally.src0.state, s.tally.src1.state, s.tally.src2.state]
  planState := s.plans.state
  planOwed := s.radio.planOwed
  cts := s.radio.cts
  noticesLost := s.port.noticesLost
  portError := s.port.portError

/-- The summary of an UNCONFIGURED part. -/
def State.summaryUnconfigured (s : State) : SummaryReport where
  configured := false
  carriers := 0
  links := [160, 0, 0, 0, 0, 0, 0, 0, 0, 0]
  queueDepth := 0
  clearSpares := 0
  otherSpares := 0
  noticeDepth := 0
  sources := [.absent, .absent, .absent]
  planState := .idle
  planOwed := false
  cts := s.radio.cts
  noticesLost := s.port.noticesLost
  portError := s.port.portError

/-- The summary as it stands. -/
def State.summary (s : State) : SummaryReport :=
  if s.configured then s.summaryConfigured else s.summaryUnconfigured

/-- READ SUMMARY at the Control Port: the flags are reported and then cleared (R190). -/
def ownReadSummary (_ : Unit) (s : State) : Answer :=
  (s.setPort { s.port with portError := false, noticesLost := false }).okWith (.summary s.summary)

/-- READ SUMMARY (R190). -/
def execReadSummary (b : ReqBody Unit) (s : State) : Host.Outcome State Fault Refusal :=
  .next (s.take 48 true b ownReadSummary)

/-! ### Requests no block takes (R180, R181) -/

/-- A correctly framed request with a code that is no request code (R181). -/
def execUnrecognisedRequest (code : Nat) (s : State) : Host.Outcome State Fault Refusal :=
  .next (s.transaction fun s =>
    if s.port.owed.isSome then s.portFault else s.respond code .unknownRequest .empty)

/-- A request transaction that ends badly framed (R180). -/
def execFramingError (_bytes : List Byte) (_bits : Nat) (s : State) : Host.Outcome State Fault Refusal :=
  .next (s.transaction State.portFault)

/-! ### Collects (R183, R184) -/

/-- The item a collect chooses (R183). -/
def Port.choose (p : Port) : Item :=
  match p.owed with
  | some r => .response r
  | none =>
    match p.notices with
    | n :: _ => .notice n
    | [] => .empty

/-- A collect begins. -/
def Port.present (p : Port) : Port :=
  { p with transaction := .collect, byteCount := 1, presented := some p.choose }

/-- COLLECT (R183). A transaction that was under way when a reset ended stays ignored; a code byte within a
collect is one of the bytes the part ignores. -/
def execCollect (s : State) : Host.Outcome State Fault Refusal :=
  .next (s.event fun s =>
    if s.pins.selHeld || s.port.transaction == .collect then s else s.setPort s.port.present)

/-- A consumed item leaves where it stood (R184). -/
def Port.consume (p : Port) : Item → Port
  | .response _ => { p with owed := none }
  | .notice _ => { p with notices := p.notices.tail }
  | .empty => p

/-- The collect is over. -/
def Port.closed (p : Port) : Port := { p.ended with presented := none }

/-- A collect of item `i` ends after `clocked` bytes of it (R184). -/
def Port.collected (p : Port) (i : Item) (clocked : Nat) : Port :=
  if i.bytes.length ≤ clocked then (p.consume i).closed else { p.closed with portError := true }

/-- SEL# rises: a transaction that was under way when a reset ended is over; otherwise a collect in
progress ends. -/
def State.selRises (s : State) (clocked : Nat) : State :=
  if s.pins.selHeld then s.setPins { s.pins with selHeld := false }
  else
    match s.port.presented with
    | some i => s.setPort (s.port.collected i clocked)
    | none => s

/-- COLLECT END (R184). -/
def execCollectEnd (clocked : Nat) (s : State) : Host.Outcome State Fault Refusal :=
  .next (s.event fun s => s.selRises clocked)

/-! ### RESET# (R194) -/

/-- The state while RESET# is low: every piece of state at its reset value. The level of CTS is what the
rack drives and the waiting commands are the world's, so both stay (log entries 1 and 3). -/
def State.underReset (s : State) : State :=
  { State.reset with
    radio := { State.reset.radio with cts := s.radio.cts }
    pins := { inReset := true, selHeld := false }
    pending := s.pending }

/-- HARDWARE RESET (R194). -/
def execHardwareReset (s : State) : Host.Outcome State Fault Refusal := .next s.underReset

/-- The rising edge of RESET#, with SEL# found low or high (R194). It ends a reset; a part that is not in
reset has no such edge. -/
def execResetRisingEdge (selLow : Bool) (s : State) : Host.Outcome State Fault Refusal :=
  .next (if s.pins.inReset then s.setPins { inReset := false, selHeld := selLow } else s)

/-! ### Output pins (Tables 11-6 and 11-7) -/

/-- SEL# is low: a transaction is under way, or is left from a reset. -/
def State.selLow (s : State) : Bool := s.pins.selHeld || s.port.transaction != .none

/-- SDO at byte place `n` after the code byte: high-impedance while RESET# is low or SEL# is high; otherwise
the byte of the presented item, or the idle value (R180, R183, R192, Table 11-7). That a transaction left from
a reset finds it at the idle value is DEDUCED (log entry 21). -/
def State.sdo (s : State) (n : Nat) : SdoLevel :=
  if s.pins.inReset || !s.selLow then .highZ
  else
    match s.port.presented with
    | some i => .driven (i.sdo n)
    | none => .driven 255

end Sys2Proof.Machine
end

