-- ==== Sys2Proof/Machine/Reports.lean ====
section
/-! DEFINITION. The Radio Port's receiver and transmitter (chapter 9): the reports from the rack, CTS, and
the completion of a message. -/

namespace Sys2Proof.Machine

open Sys2Proof

/-! ### Acceptance of a report (R174) -/

/-- A message on RRX is complete or abandoned: the receiver holds nothing. -/
def State.rrxDone (s : State) : State := s.setRadio { s.radio with received := [] }

/-- A complete report for the record `handle` of it: discarded where the part is UNCONFIGURED, the layout
is broken, a field is out of range, or the record is FREE; otherwise handed to its owner (R174). -/
def State.report {α : Type} (s : State) (b : LineBody α) (handle : α → Nat) (inRange : α → Bool)
    (k : α → State → State) : State :=
  s.event fun s =>
    if !s.configured then s.rrxDone
    else
      match b with
      | .badLength => s.rrxDone
      | .badSum => s.rrxDone
      | .fields a =>
        if !handleOk (handle a) || !inRange a then s.rrxDone
        else if (s.link (handle a)).state = .free then s.rrxDone
        else k a s.rrxDone

/-- TUNED (R78). -/
def execTuned (b : LineBody HandleStep) (s : State) : Host.Outcome State Fault Refusal :=
  .next (s.report b (·.handle) (fun a => stepOk a.step) fun a s => s.tunedAt a.handle a.step)

/-- MUTED (R85). -/
def execMuted (b : LineBody Nat) (s : State) : Host.Outcome State Fault Refusal :=
  .next (s.report b id (fun _ => true) fun h s => s.mutedAt h)

/-! ### INTERFERENCE (R103, R104) -/

/-- The record with the interference count raised by one, saturating at 255 (R27). -/
def Link.disturbed (l : Link) : Link := { l with interference := min (l.interference + 1) 255 }

/-- A report at an ACTIVE link under AUTO: an AUTO job, or a referral where the queue is full. -/
def State.autoRetune (s : State) (h severity : Nat) (l : Link) : State :=
  if s.engine.full then s.enterReferred h l (.queue severity)
  else
    (s.setLink h { l with state := .recheck, job := some .auto, target := none }).offer
      (l.jobOf .auto h none false)

/-- A report at an ACTIVE link, by its policy (R104). -/
def State.disturbedActive (s : State) (h severity : Nat) (l : Link) : State :=
  match l.policy with
  | some .auto => s.autoRetune h severity l
  | some .refer => s.enterReferred h l (.policy severity)
  | some .none => (s.setLink h l).notify (.interference h severity l.interference)
  | none => s.setLink h l

/-- An INTERFERENCE report at a record (R103): a severity above 3 is taken as 3. -/
def State.disturb (s : State) (h severity : Nat) : State :=
  let l := (s.link h).disturbed
  if l.state = .active then State.finish s (s.disturbedActive h (min severity 3) l)
  else s.setLink h l

/-- INTERFERENCE (R104). -/
def execInterference (b : LineBody InterferenceArgs) (s : State) : Host.Outcome State Fault Refusal :=
  .next (s.report b (·.handle) (fun _ => true) fun a s => s.disturb a.handle a.severity)

/-! ### CARRIER LOSS and CARRIER BACK (R27, R174) -/

/-- CARRIER LOSS at a record. -/
def State.carrierLost (s : State) (h : Nat) : State :=
  (s.setLink h { s.link h with signalLost := true }).notify
    (.carrierLoss h (s.link h).state (s.link h).held)

/-- CARRIER LOSS (R174). -/
def execCarrierLoss (b : LineBody Nat) (s : State) : Host.Outcome State Fault Refusal :=
  .next (s.report b id (fun _ => true) fun h s => s.carrierLost h)

/-- CARRIER BACK (R174). -/
def execCarrierBack (b : LineBody Nat) (s : State) : Host.Outcome State Fault Refusal :=
  .next (s.report b id (fun _ => true) fun h s => s.setLink h { s.link h with signalLost := false })

/-! ### Belt-pack keys (R175) -/

/-- A plan gives a pack an upstream slot. -/
def Plan.hasUp (p : Plan) (h : Nat) : Bool := p.packs.any fun e => e.handle == h && e.up.isSome

/-- A KEY report is accepted: the record is a BELTPACK with an upstream slot in the Active Plan. -/
def State.keyAccepted (s : State) (h : Nat) : Bool :=
  (s.link h).kind == some .beltpack && s.plans.active.hasUp h

/-- A key event from one of the two ports, at the Talk Arbiter: nothing happens where no defined key has
the origin (R142, R177). -/
def State.keyEvent (s : State) (origin : Origin) (press : Bool) : State :=
  match s.talk.findKey fun x => x.origin == origin with
  | none => s
  | some k => State.finish s (s.setTalk (s.talk.keyEventAt s.now k press))

/-- KEY (R175). -/
def execKey (b : LineBody PackKeyArgs) (s : State) : Host.Outcome State Fault Refusal :=
  .next (s.report b (·.handle) (fun a => decide (a.packKey ≤ 3) && decide (a.direction ≤ 1)) fun a s =>
    if s.keyAccepted a.handle then s.keyEvent (.pack a.handle a.packKey) (a.direction == 1) else s)

/-! ### The line itself (R170, R174, R193) -/

/-- A gap of more than 10 ms on RRX abandons the message in progress (R174). -/
def execRadioReceiveTimeout (s : State) : Host.Outcome State Fault Refusal :=
  .next (s.event State.rrxDone)

/-- A complete message on RRX of a type the line does not receive is discarded (R174). -/
def execRadioUnknownReportType (_type : Nat) (s : State) : Host.Outcome State Fault Refusal :=
  .next (s.event State.rrxDone)

/-- CTS becomes asserted. The level of an input pin is what the rack drives, also while RESET# is low;
nothing begins then (R170, R194). -/
def execCtsAsserted (s : State) : Host.Outcome State Fault Refusal :=
  let t := s.setRadio { s.radio with cts := true }
  .next (t.event fun t => State.finish t t)

/-- CTS is withdrawn: a message under way goes on to its end (R170). -/
def execCtsWithdrawn (s : State) : Host.Outcome State Fault Refusal :=
  .next (s.setRadio { s.radio with cts := false })

/-- The last byte of a message leaves RTX (R170). -/
def execRadioMessageComplete (s : State) : Host.Outcome State Fault Refusal :=
  .next (s.event fun s => State.finish s (s.setRadio { s.radio with sending := none }))

end Sys2Proof.Machine
end

