-- ==== Sys2Proof/Machine/Talkback.lean ====
section
/-! DEFINITION. The requests of chapter 7, the panel events of the Matrix Port, the completion of a ROUTE
and the expiry of a talk deadline. -/

namespace Sys2Proof.Machine

open Sys2Proof

/-! ### DEFINE KEY and DELETE KEY (R132, R133, R150) -/

/-- A destination argument that names a defined destination. -/
def State.destDefined (s : State) (id : Nat) : Bool := decide (id ≤ 31) && (s.talk.dest id).isSome

/-- The key of DEFINE KEY, none where an argument is out of range (R132, step 1). -/
def State.keyArg (s : State) (a : KeyArgs) : Option Key :=
  match originOf a.originKind a.origin1 a.origin2, keyTypeOf a.type with
  | some o, some t =>
    if a.key ≤ 95 ∧ s.destDefined a.dest = true ∧ a.level ≤ 7 then
      some { origin := o, dest := a.dest, level := a.level, type := t, state := .idle, deadline := none }
    else none
  | _, _ => none

/-- A key is WAITING or TALKING. -/
def KeyState.busy : KeyState → Bool
  | .waiting => true
  | .talking => true
  | .idle => false
  | .disabled => false

/-- What R132, step 3, makes of the link a BELTPACK origin names; none where it refuses nothing. -/
def State.originFault (s : State) (o : Origin) : Option Status :=
  match o with
  | .panel _ _ => none
  | .pack h _ =>
    if (s.link h).state = .free then some .noLink
    else if (s.link h).state = .checking then some .busy
    else if (s.link h).kind ≠ some .beltpack then some .badArgument
    else none

/-- The other defined key that holds an origin (R132, step 4). -/
def Talk.otherKey (t : Talk) (k : Nat) (o : Origin) : Option Nat :=
  (t.keys.entries.find? fun x => x.2 != k && match x.1 with
    | some y => y.origin == o
    | none => false).map (·.2)

/-- A key taken out of its ring. -/
def Talk.leaveRing (t : Talk) (k : Nat) (x : Key) : Talk := t.onDest x.dest fun d => d.leaveRing x.level k

/-- A key put at the end of its ring. -/
def Talk.joinRing (t : Talk) (k : Nat) (x : Key) : Talk := t.onDest x.dest fun d => d.toRingEnd x.level k

/-- An accepted DEFINE KEY: the entry is written and the key's place in the rings is settled. -/
def Talk.define (t : Talk) (k : Nat) (x : Key) : Talk :=
  match t.key k with
  | none => (t.setKey k (some x)).joinRing k x
  | some old =>
    if old.dest = x.dest ∧ old.level = x.level then t.setKey k (some x)
    else ((t.leaveRing k old).setKey k (some x)).joinRing k x

/-- DEFINE KEY at the Talk Arbiter (R132). -/
def ownDefineKey (a : KeyArgs) (s : State) : Answer :=
  match s.keyArg a with
  | none => s.refuse .badArgument
  | some x =>
    if (s.talk.keyState a.key).busy then s.refuse .busy
    else
      match s.originFault x.origin with
      | some st => s.refuse st
      | none =>
        match s.talk.otherKey a.key x.origin with
        | some k => s.refuseWith .duplicate (.keyId k)
        | none => (s.setTalk (s.talk.define a.key x)).ok

/-- DEFINE KEY (R132). -/
def execDefineKey (b : ReqBody KeyArgs) (s : State) : Host.Outcome State Fault Refusal :=
  .next (s.take 32 false b ownDefineKey)

/-- A key taken out of its ring and made undefined. -/
def Talk.delete (t : Talk) (k : Nat) (x : Key) : Talk := (t.leaveRing k x).setKey k none

/-- DELETE KEY at the Talk Arbiter (R133). -/
def ownDeleteKey (k : Nat) (s : State) : Answer :=
  if 95 < k then s.refuse .badArgument
  else
    match s.talk.key k with
    | none => s.ok
    | some x => if x.state.busy then s.refuse .busy else (s.setTalk (s.talk.delete k x)).ok

/-- DELETE KEY (R133). -/
def execDeleteKey (b : ReqBody Nat) (s : State) : Host.Outcome State Fault Refusal :=
  .next (s.take 33 false b ownDeleteKey)

/-! ### DEFINE DEST and DELETE DEST (R135, R138) -/

/-- What a link argument that may be none is refused with (R135, step 2; R136; R137): the record FREE,
then CHECKING, then, where an IEM is asked for, of another kind. -/
def State.linkFault (s : State) (h : Option Nat) (iem : Bool) : Option Status :=
  match h with
  | none => none
  | some h =>
    if (s.link h).state = .free then some .noLink
    else if (s.link h).state = .checking then some .busy
    else if iem && (s.link h).kind != some .iem then some .badArgument
    else none

/-- One of the two named records is in this state. -/
def State.eitherIn (s : State) (st : LinkState) (a b : Option Nat) : Bool :=
  (a.any fun h => (s.link h).state == st) || (b.any fun h => (s.link h).state == st)

/-- R135, step 2, over the target and the watch link: each condition is looked for at both before the
next (log entry 9). -/
def State.destFault (s : State) (target watch : Option Nat) : Option Status :=
  if s.eitherIn .free target watch then some .noLink
  else if s.eitherIn .checking target watch then some .busy
  else s.linkFault target true

/-- The destination of DEFINE DEST with its fields as stored, none where R135, step 1, refuses one. Its
lists and rings are those of a new destination. -/
def destArg (a : DestArgs) : Option Dest :=
  match destKindOf a.kind, modeOf a.mode with
  | some k, some m =>
    if a.dest ≤ 31 ∧ (k = .ifb ∨ a.target = 255) ∧ optHandleOk a.target = true
        ∧ optHandleOk a.watch = true then
      some { kind := k, target := optByte a.target, watch := optByte a.watch, mode := m,
             limit := clampLimit m a.limit, threshold := clampThreshold a.threshold,
             rotation := isOn a.rotation, talkLimit := clampTalkLimit a.talkLimit,
             talking := [], waiting := [], requests := [], rings := Tab.fill 8 [],
             routed := false, restricted := false }
    else none
  | _, _ => none

/-- A destination is named in either plan. -/
def Plans.name (p : Plans) (id : Nat) : Bool := p.pending.names id || p.active.names id

/-- R135, step 3: the defined destination has a key WAITING or TALKING, or would change its kind while a
plan names it. -/
def State.destBusy (s : State) (id : Nat) (x : Dest) : Bool :=
  match s.talk.dest id with
  | none => false
  | some d => !d.talking.isEmpty || !d.waiting.isEmpty || (s.plans.name id && d.kind != x.kind)

/-- The destination as it is stored: the rings of a redefined one kept, the standing computed afresh. -/
def State.destStored (s : State) (id : Nat) (x : Dest) : Dest :=
  { x with
    rings := match s.talk.dest id with
      | some d => d.rings
      | none => x.rings
    routed := s.routed id x
    restricted := s.restricted x }

/-- DEFINE DEST at the Talk Arbiter (R135). -/
def ownDefineDest (a : DestArgs) (s : State) : Answer :=
  match destArg a with
  | none => s.refuse .badArgument
  | some x =>
    match s.destFault x.target x.watch with
    | some st => s.refuse st
    | none =>
      if s.destBusy a.dest x then s.refuse .busy
      else
        (s.setTalk (s.talk.setDest a.dest (some (s.destStored a.dest x)))).okWith
          (.destFields (s.destStored a.dest x))

/-- DEFINE DEST (R135). -/
def execDefineDest (b : ReqBody DestArgs) (s : State) : Host.Outcome State Fault Refusal :=
  .next (s.take 34 false b ownDefineDest)

/-- A defined destination changed by `f`, its standing recomputed (R136, R137). -/
def State.changeDest (s : State) (id : Nat) (f : Dest → Dest) : State :=
  State.finish s ((s.setTalk (s.talk.onDest id f)).restandOne id)

/-- An IFB destination. -/
def State.isIfb (s : State) (id : Nat) : Bool :=
  decide (id ≤ 31) && (s.talk.dest id).any fun d => d.kind == .ifb

/-- SET TARGET at the Talk Arbiter (R136). -/
def ownSetTarget (a : DestLink) (s : State) : Answer :=
  if !s.isIfb a.dest || !optHandleOk a.handle then s.refuse .badArgument
  else
    match s.linkFault (optByte a.handle) true with
    | some st => s.refuse st
    | none => ⟨s.changeDest a.dest fun d => { d with target := optByte a.handle }, .ok, .empty⟩

/-- SET TARGET (R136). -/
def execSetTarget (b : ReqBody DestLink) (s : State) : Host.Outcome State Fault Refusal :=
  .next (s.take 35 false b ownSetTarget)

/-- SET WATCH at the Talk Arbiter (R137). -/
def ownSetWatch (a : DestLink) (s : State) : Answer :=
  if !s.destDefined a.dest || !optHandleOk a.handle then s.refuse .badArgument
  else
    match s.linkFault (optByte a.handle) false with
    | some st => s.refuse st
    | none => ⟨s.changeDest a.dest fun d => { d with watch := optByte a.handle }, .ok, .empty⟩

/-- SET WATCH (R137). -/
def execSetWatch (b : ReqBody DestLink) (s : State) : Host.Outcome State Fault Refusal :=
  .next (s.take 36 false b ownSetWatch)

/-- DELETE DEST is refused: a defined key or a plan names the destination (R138). -/
def State.destHeld (s : State) (id : Nat) : Bool :=
  (s.talk.findKey fun x => x.dest == id).isSome || s.plans.name id

/-- DELETE DEST at the Talk Arbiter (R138). -/
def ownDeleteDest (id : Nat) (s : State) : Answer :=
  if 31 < id then s.refuse .badArgument
  else
    match s.talk.dest id with
    | none => s.ok
    | some _ => if s.destHeld id then s.refuse .busy else (s.setTalk (s.talk.setDest id none)).ok

/-- DELETE DEST (R138). -/
def execDeleteDest (b : ReqBody Nat) (s : State) : Host.Outcome State Fault Refusal :=
  .next (s.take 37 false b ownDeleteDest)

/-! ### SET LAST and CLEAR TALK (R151, R153) -/

/-- The waiting list put in the waiting order (R141). -/
def Talk.rerank (t : Talk) (d : Dest) : Dest := { d with waiting := sortBy (t.waitRank d) d.waiting }

/-- A key moved to the end of its ring; the waiting list of its destination follows where the key waits
there with rotation on. -/
def Talk.setLast (t : Talk) (k : Nat) (x : Key) : Talk :=
  t.onDest x.dest fun d =>
    if x.state = .waiting ∧ d.rotation = true then t.rerank (d.toRingEnd x.level k)
    else d.toRingEnd x.level k

/-- SET LAST at the Talk Arbiter (R151). -/
def ownSetLast (k : Nat) (s : State) : Answer :=
  if 95 < k then s.refuse .badArgument
  else
    match s.talk.key k with
    | none => s.refuse .badArgument
    | some x => (s.setTalk (s.talk.setLast k x)).ok

/-- SET LAST (R151). -/
def execSetLast (b : ReqBody Nat) (s : State) : Host.Outcome State Fault Refusal :=
  .next (s.take 38 false b ownSetLast)

/-- CLEAR TALK at the Talk Arbiter (R153). -/
def ownClearTalk (_ : Unit) (s : State) : Answer := State.done s (s.setTalk s.talk.cleared) .ok .empty

/-- CLEAR TALK (R153). -/
def execClearTalk (b : ReqBody Unit) (s : State) : Host.Outcome State Fault Refusal :=
  .next (s.take 39 false b ownClearTalk)

/-! ### QUERY DEST and QUERY KEY (R155, R156) -/

/-- The time remaining to a key's talk deadline. -/
def State.keyRemaining (s : State) (k : Nat) : Option Nat :=
  match s.talk.key k with
  | some x => x.deadline.map s.msTo
  | none => none

/-- The QUERY DEST report of a defined destination. -/
def State.destReport (s : State) (d : Dest) : DestReport where
  dest := d
  talking := d.talking.map fun k => (k, s.keyRemaining k)
  ringSizes := d.rings.rows.map (·.length)

/-- QUERY DEST at the Talk Arbiter (R155). -/
def ownQueryDest (id : Nat) (s : State) : Answer :=
  if 31 < id then s.refuse .badArgument
  else s.okWith (.dest id ((s.talk.dest id).map s.destReport) (s.mtx.owed.get id false))

/-- QUERY DEST (R155). -/
def execQueryDest (b : ReqBody Nat) (s : State) : Host.Outcome State Fault Refusal :=
  .next (s.take 40 false b ownQueryDest)

/-- The place of a key in a list, counting from 1. -/
def placeIn (k : Nat) (l : List Nat) : Option Nat := if l.contains k then some (l.idxOf k + 1) else none

/-- The QUERY KEY report of a defined key. -/
def State.keyReport (s : State) (k : Nat) (x : Key) : KeyReport where
  key := x
  requestPlace := (s.talk.dest x.dest).bind fun d => placeIn k d.requests
  ringPlace := ((s.talk.dest x.dest).bind fun d => placeIn k (d.ring x.level)).getD 0
  remaining := x.deadline.map s.msTo

/-- QUERY KEY at the Talk Arbiter (R156). -/
def ownQueryKey (k : Nat) (s : State) : Answer :=
  if 95 < k then s.refuse .badArgument
  else s.okWith (.key k ((s.talk.key k).map (s.keyReport k)))

/-- QUERY KEY (R156). -/
def execQueryKey (b : ReqBody Nat) (s : State) : Host.Outcome State Fault Refusal :=
  .next (s.take 41 false b ownQueryKey)

/-! ### The Matrix Port (R177, R178) -/

/-- A message on MRX is complete or abandoned: the receiver holds nothing. -/
def State.mrxDone (s : State) : State := s.setMtx { s.mtx with received := [] }

/-- A complete panel event on MRX: discarded where the part is UNCONFIGURED, the layout is broken, or no
defined key has the origin (R177). -/
def State.panelEvent (s : State) (b : LineBody PanelArgs) (press : Bool) : State :=
  s.event fun s =>
    if !s.configured then s.mrxDone
    else
      match b with
      | .badLength => s.mrxDone
      | .badSum => s.mrxDone
      | .fields a =>
        if panelOk a.panel a.button then s.mrxDone.keyEvent (.panel a.panel a.button) press
        else s.mrxDone

/-- PRESS (R177). -/
def execPress (b : LineBody PanelArgs) (s : State) : Host.Outcome State Fault Refusal :=
  .next (s.panelEvent b true)

/-- RELEASE (R177). -/
def execRelease (b : LineBody PanelArgs) (s : State) : Host.Outcome State Fault Refusal :=
  .next (s.panelEvent b false)

/-- A gap of more than 10 ms on MRX abandons the event in progress (R177). -/
def execMatrixReceiveTimeout (s : State) : Host.Outcome State Fault Refusal :=
  .next (s.event State.mrxDone)

/-- A complete message on MRX of a type the line does not receive is discarded (R177). -/
def execMatrixUnknownEventType (_type : Nat) (s : State) : Host.Outcome State Fault Refusal :=
  .next (s.event State.mrxDone)

/-- The last byte of a ROUTE leaves MTX (R178). -/
def execRouteComplete (s : State) : Host.Outcome State Fault Refusal :=
  .next (s.event fun s => State.finish s (s.setMtx { s.mtx with sending := none }))

/-! ### Talk limits (R152) -/

/-- A key's talk deadline expires: its talk ends and TALK_TIMEOUT is queued. -/
def State.talkExpires (s : State) (k : Nat) (x : Key) : State :=
  (s.setTalk (s.talk.endKey s.now k)).notify (.talkTimeout x.dest k x.origin)

/-- A defined key with its running talk deadline; none where it has none. -/
def Talk.running (t : Talk) (k : Nat) : Option (Key × Nat) :=
  match t.key k with
  | none => none
  | some x => x.deadline.map fun d => (x, d)

/-- TALK DEADLINE EXPIRY (R152). -/
def execTalkDeadlineExpiry (k : Nat) (s : State) : Host.Outcome State Fault Refusal :=
  .next (s.event fun s =>
    match s.talk.running k with
    | some (x, d) => State.finish s ((s.reachTime d).talkExpires k x)
    | none => s)

end Sys2Proof.Machine
end

