-- ==== Sys2Proof/Machine/Framing.lean ====
section
/-! DEFINITION. The requests of chapter 8 and the frame mark. -/

namespace Sys2Proof.Machine

open Sys2Proof

/-! ### Plan entries (R157) -/

/-- The pack entry of a handle; a handle with none has the empty one. -/
def Plan.pack (p : Plan) (h : Nat) : Pack := (p.packs.find? fun e => e.handle == h).getD ⟨h, 0, none⟩

/-- A pack entry put in its place in ascending handle order. -/
def insertPack (e : Pack) : List Pack → List Pack
  | [] => [e]
  | x :: xs => if e.handle < x.handle then e :: x :: xs else x :: insertPack e xs

/-- A pack entry that says nothing. -/
def Pack.empty (e : Pack) : Bool := e.listen == 0 && e.up.isNone

/-- The entry of a handle replaced; an entry left empty is removed. -/
def Plan.setPack (p : Plan) (e : Pack) : Plan :=
  if e.empty then p.without e.handle
  else { p with packs := insertPack e (p.without e.handle).packs }

/-- A downstream slot replaced. -/
def Plan.setDown (p : Plan) (slot : Nat) (x : Option Nat) : Plan := { p with down := p.down.set slot x }

/-- The Pending Plan replaced. -/
def State.setPendingPlan (s : State) (p : Plan) : State := s.setPlans { s.plans with pending := p }

/-! ### Staging (R159, R160) -/

/-- STAGE DOWN at the Frame Plan (R159). -/
def ownStageDown (a : DownArgs) (s : State) : Answer :=
  if 11 < a.slot ∨ (31 < a.dest ∧ a.dest ≠ 255) then s.refuse .badArgument
  else if s.plans.state = .commitWait then s.refuse .busy
  else (s.setPendingPlan (s.plans.pending.setDown a.slot (optByte a.dest))).ok

/-- STAGE DOWN (R159). -/
def execStageDown (b : ReqBody DownArgs) (s : State) : Host.Outcome State Fault Refusal :=
  .next (s.take 42 false b ownStageDown)

/-- The edit of one pack entry of the Pending Plan, or its refusal (R160). -/
def State.stagePack (s : State) (h : Nat) (argsOk : Bool) (f : Pack → Pack) : Answer :=
  if !handleOk h || !argsOk then s.refuse .badArgument
  else if (s.link h).state = .free then s.refuse .noLink
  else if (s.link h).kind ≠ some .beltpack then s.refuse .badArgument
  else if s.plans.state = .commitWait then s.refuse .busy
  else (s.setPendingPlan (s.plans.pending.setPack (f (s.plans.pending.pack h)))).ok

/-- STAGE LISTEN at the Frame Plan (R160). -/
def ownStageListen (a : ListenArgs) (s : State) : Answer :=
  s.stagePack a.handle true fun e => { e with listen := listenMask a.mask }

/-- STAGE LISTEN (R160). -/
def execStageListen (b : ReqBody ListenArgs) (s : State) : Host.Outcome State Fault Refusal :=
  .next (s.take 43 false b ownStageListen)

/-- An upstream slot or none. -/
def optUpOk (n : Nat) : Bool := decide (n ≤ 9) || n == 255

/-- STAGE UP at the Frame Plan (R160). -/
def ownStageUp (a : UpArgs) (s : State) : Answer :=
  s.stagePack a.handle (optUpOk a.up) fun e => { e with up := optByte a.up }

/-- STAGE UP (R160). -/
def execStageUp (b : ReqBody UpArgs) (s : State) : Host.Outcome State Fault Refusal :=
  .next (s.take 44 false b ownStageUp)

/-! ### COMMIT (R161) -/

/-- The downstream slots that name a destination, lowest first: destination and slot. -/
def Plan.downs (p : Plan) : List (Nat × Nat) :=
  p.down.entries.filterMap fun x => x.1.map fun d => (d, x.2)

/-- The destination is defined and a GROUP. -/
def State.isGroup (s : State) (id : Nat) : Bool := (s.talk.dest id).any fun d => d.kind == .group

/-- Offence 1. -/
def State.destKindFault (s : State) (p : Plan) : Option Offence :=
  (p.downs.find? fun x => !s.isGroup x.1).map fun x => .destKind x.2 x.1

/-- Offence 2, over the slots still to be looked at; `seen` are the lower ones. -/
def repeatedIn (seen : List (Nat × Nat)) : List (Nat × Nat) → Option Offence
  | [] => none
  | (d, slot) :: rest =>
    match seen.find? fun x => x.1 == d with
    | some x => some (.destRepeated x.2 slot d)
    | none => repeatedIn (seen ++ [(d, slot)]) rest

/-- Offence 3. -/
def State.packKindFault (s : State) (p : Plan) : Option Offence :=
  (p.packs.find? fun e => (s.link e.handle).state == .free
    || (s.link e.handle).kind != some .beltpack).map fun e => .packKind e.handle

/-- Offence 4. -/
def State.packStateFault (s : State) (p : Plan) : Option Offence :=
  (p.packs.find? fun e => !(s.link e.handle).state.planEligible).map fun e =>
    .packState e.handle (s.link e.handle).state

/-- Offence 5, over the entries still to be looked at; `seen` are those of lower handle. -/
def sharedIn (seen : List Pack) : List Pack → Option Offence
  | [] => none
  | e :: rest =>
    match e.up, seen.find? fun x => x.up.isSome && x.up == e.up with
    | some u, some x => some (.upShared u x.handle e.handle)
    | _, _ => sharedIn (seen ++ [e]) rest

/-- The first offence of a plan, in the order of R161. -/
def State.offence (s : State) (p : Plan) : Option Offence :=
  s.destKindFault p <|> repeatedIn [] p.downs <|> s.packKindFault p <|> s.packStateFault p
    <|> sharedIn [] p.packs

/-- COMMIT at the Frame Plan (R161). -/
def ownCommit (_ : Unit) (s : State) : Answer :=
  if s.plans.state = .commitWait then s.refuse .busy
  else
    match s.offence s.plans.pending with
    | some o => s.refuseWith .conflict (.offence o)
    | none => (s.setPlans { s.plans with state := .commitWait }).okWith (.planNumber (s.plans.number + 1))

/-- COMMIT (R161). -/
def execCommit (b : ReqBody Unit) (s : State) : Host.Outcome State Fault Refusal :=
  .next (s.take 45 false b ownCommit)

/-! ### DISCARD PLAN and READ PLAN (R164, R167) -/

/-- DISCARD PLAN at the Frame Plan (R164). -/
def ownDiscardPlan (_ : Unit) (s : State) : Answer :=
  (s.setPlans { s.plans with pending := s.plans.active, state := .idle }).ok

/-- DISCARD PLAN (R164). -/
def execDiscardPlan (b : ReqBody Unit) (s : State) : Host.Outcome State Fault Refusal :=
  .next (s.take 46 false b ownDiscardPlan)

/-- The pack entries of a READ PLAN page. -/
def Plan.page (p : Plan) (start : Nat) : List Pack :=
  (p.packs.filter fun e => decide (start ≤ e.handle)).take 16

/-- The READ PLAN report of a plan (R167). -/
def Plans.report (ps : Plans) (p : Plan) (start : Nat) : PlanReport where
  state := ps.state
  number := ps.number
  down := p.down
  total := p.packs.length
  entries := p.page start
  next := nextPage 159 ((p.page start).map (·.handle))

/-- The plan READ PLAN names (Table 11-3). -/
def Plans.named (ps : Plans) : Nat → Option Plan
  | 0 => some ps.pending
  | 1 => some ps.active
  | _ => none

/-- READ PLAN at the Frame Plan (R167). -/
def ownReadPlan (a : PlanArgs) (s : State) : Answer :=
  match s.plans.named a.which with
  | none => s.refuse .badArgument
  | some p =>
    if handleOk a.start then s.okWith (.plan (s.plans.report p a.start)) else s.refuse .badArgument

/-- READ PLAN (R167). -/
def execReadPlan (b : ReqBody PlanArgs) (s : State) : Host.Outcome State Fault Refusal :=
  .next (s.take 47 false b ownReadPlan)

/-! ### The frame mark (R162, R163, R179) -/

/-- The waiting commit applied to the plans. -/
def Plans.applied (ps : Plans) : Plans where
  pending := ps.pending
  active := ps.pending
  state := .idle
  number := ps.number + 1

/-- PLAN_APPLIED for the plan now in force. -/
def Plans.appliedNotice (ps : Plans) : Notice :=
  .planApplied ps.number ps.active.downs.length (ps.active.packs.filter (·.up.isSome)).length

/-- A pack held an upstream slot in the old plan and holds none in the new one. -/
def lostUp (old new : Plan) (h : Nat) : Bool := old.hasUp h && !new.hasUp h

/-- The application of the Pending Plan: the pack key losses first, the routing changes after them. -/
def State.applyPlan (s : State) : State :=
  let t := ((s.setPlans s.plans.applied).owePlan).notify s.plans.applied.appliedNotice
  (t.setTalk (t.talk.endPacks t.now (lostUp s.plans.active s.plans.pending))).restandAll

/-- FRAME MARK (R162, R179). -/
def execFrameMark (s : State) : Host.Outcome State Fault Refusal :=
  .next (s.outside fun s => if s.plans.state = .commitWait then State.finish s s.applyPlan else s)

end Sys2Proof.Machine
end

