-- ==== Sys2Proof/Machine/Spares.lean ====
section
/-! DEFINITION. The requests of chapter 5 on the Spare Pool, and the completions at the Coordination
Engine (chapter 3). -/

namespace Sys2Proof.Machine

open Sys2Proof

/-! ### SEED SPARE and DROP SPARE (R92, R93) -/

/-- The lowest free slot. -/
def Pool.lowestFree (p : Pool) : Option Nat := (p.slots.entries.find? fun x => x.1.isNone).map (·.2)

/-- A spare of a step is in the pool. -/
def Pool.holds (p : Pool) (step : Nat) : Bool := p.spares.any fun x => x.1.step == step

/-- A spare as seeded. -/
def Spare.seeded (a : SpareArgs) : Spare where
  step := a.step
  cls := a.cls
  zones := a.zones
  status := .unchecked
  margin := none
  inUse := .none

/-- SEED SPARE at the Spare Pool (R92). -/
def ownSeedSpare (a : SpareArgs) (s : State) : Answer :=
  if !(stepOk a.step && classOk a.cls && zonesOk a.zones) then s.refuse .badArgument
  else if s.pool.holds a.step then s.refuse .duplicate
  else
    match s.pool.lowestFree with
    | none => s.refuse .tableFull
    | some slot =>
      State.done s ((s.setPool (s.pool.setSlot slot (some (Spare.seeded a)))).wantSweep) .ok (.slot slot)

/-- SEED SPARE (R92). -/
def execSeedSpare (b : ReqBody SpareArgs) (s : State) : Host.Outcome State Fault Refusal :=
  .next (s.take 19 false b ownSeedSpare)

/-- DROP SPARE at the Spare Pool (R93). -/
def ownDropSpare (slot : Nat) (s : State) : Answer :=
  if 31 < slot then s.refuse .badArgument
  else
    match s.pool.slots.get slot none with
    | none => s.ok
    | some sp =>
      if sp.inUse = .trial then s.refuse .busy
      else ((s.setPool (s.pool.setSlot slot none)).lowPoolSince s.pool.clearCount).ok

/-- DROP SPARE (R93). -/
def execDropSpare (b : ReqBody Nat) (s : State) : Host.Outcome State Fault Refusal :=
  .next (s.take 20 false b ownDropSpare)

/-! ### READ POOL and SET POOL THRESHOLD (R94, R102) -/

/-- The entries of a READ POOL page. -/
def Pool.page (p : Pool) (start : Nat) : List (Nat × Spare) :=
  ((p.spares.filter fun x => decide (start ≤ x.2)).take 16).map fun x => (x.2, x.1)

/-- The READ POOL report (R94). -/
def Pool.report (p : Pool) (start : Nat) : PoolReport where
  threshold := p.threshold
  armed := p.armed
  sweepWanted := p.sweepWanted
  clear := p.count .clear
  unchecked := p.count .unchecked
  spoiled := p.count .spoiled
  free := 32 - p.spares.length
  entries := p.page start
  next := nextPage 31 ((p.page start).map (·.1))

/-- READ POOL at the Spare Pool (R94). -/
def ownReadPool (start : Nat) (s : State) : Answer :=
  if 31 < start then s.refuse .badArgument else s.okWith (.pool (s.pool.report start))

/-- READ POOL (R94). -/
def execReadPool (b : ReqBody Nat) (s : State) : Host.Outcome State Fault Refusal :=
  .next (s.take 21 false b ownReadPool)

/-- SET POOL THRESHOLD at the Spare Pool (R102). -/
def ownSetPoolThreshold (n : Nat) (s : State) : Answer :=
  ((s.setPool { s.pool with threshold := min n 32, armed := true }).evalLowPool).okWith
    (.threshold (min n 32))

/-- SET POOL THRESHOLD (R102). -/
def execSetPoolThreshold (b : ReqBody Nat) (s : State) : Host.Outcome State Fault Refusal :=
  .next (s.take 22 false b ownSetPoolThreshold)

/-! ### Completions (R44, R60, R98) -/

/-- The check of the running job completes (R44). -/
def execCheckCompletion (s : State) : Host.Outcome State Fault Refusal :=
  .next (s.event fun s => State.finish s s.checkCompletes)

/-- The trial of the running pool job ends (R60). -/
def execTrialEnd (s : State) : Host.Outcome State Fault Refusal :=
  .next (s.event fun s => State.finish s s.trialEnds)

/-- The running sweep unit completes (R98). -/
def execSweepUnitCompletion (s : State) : Host.Outcome State Fault Refusal :=
  .next (s.event fun s => State.finish s s.sweepCompletes)

end Sys2Proof.Machine
end

