-- ==== Sys2Proof/Machine/TallyPort.lean ====
section
/-! DEFINITION. The requests of chapter 6, the tally lines and the liveness timers. -/

namespace Sys2Proof.Machine

open Sys2Proof

/-- What follows from a change at the Tally Resolver that began in `s0` and has recomputed the links'
tally fields in `s`: the on-air changes, and the end of the event (R119, R124). -/
def State.afterTally (s0 s : State) : State := State.finish s0 (State.deliverOnAir s0 s)

/-! ### LOAD TALLY MAP and CLEAR SOURCE (R111, R112, R116) -/

/-- A subsidiary after a map is loaded. -/
def freshSource (c : Option Cascade) : Src := if c.isSome then Src.awaiting else Src.absent

/-- The new map in force, every present source AWAITING (R112). -/
def State.installMap (s : State) (m : TallyMap) : State :=
  s.setTally { map := some m, src0 := Src.awaiting, src1 := freshSource m.cascade1,
               src2 := freshSource m.cascade2 }

/-- LOAD TALLY MAP at the Tally Resolver (R111, R112). -/
def ownLoadTallyMap (a : MapArgs) (s : State) : Answer :=
  match mapJudge a with
  | .refused st => s.refuse st
  | .stored m => ⟨State.afterTally s (s.installMap m).resolveAll, .ok, .tallyMap m⟩

/-- LOAD TALLY MAP (R112). -/
def execLoadTallyMap (b : ReqBody MapArgs) (s : State) : Host.Outcome State Fault Refusal :=
  .next (s.take 25 false b ownLoadTallyMap)

/-- A source changed, and the links bound through it recomputed. -/
def State.changeSource (s : State) (x : Source) (v : Src) : State :=
  (s.setTally (s.tally.setSrc x v)).resolveThrough x

/-- CLEAR SOURCE at the Tally Resolver (R116). -/
def ownClearSource (n : Nat) (s : State) : Answer :=
  match sourceOf n with
  | none => s.refuse .badArgument
  | some x =>
    if s.tally.present x then ⟨State.afterTally s (s.changeSource x Src.awaiting), .ok, .empty⟩
    else s.refuse .badArgument

/-- CLEAR SOURCE (R116). -/
def execClearSource (b : ReqBody Nat) (s : State) : Host.Outcome State Fault Refusal :=
  .next (s.take 26 false b ownClearSource)

/-! ### BIND and UNBIND (R121, R122) -/

/-- The arguments of BIND in range, the source present in the map in force. -/
def State.bindArg (s : State) (a : BindArgs) : Option Binding :=
  match bindingOf a.source a.input with
  | some x => if handleOk a.handle && s.tally.present x.source then some x else none
  | none => none

/-- A link's bindings replaced, and the link recomputed. -/
def State.rebind (s : State) (h : Nat) (bs : List Binding) : State :=
  (s.setLink h { s.link h with bindings := bs }).resolveLink h

/-- BIND at the Tally Resolver (R121). -/
def ownBind (a : BindArgs) (s : State) : Answer :=
  match s.bindArg a with
  | none => s.refuse .badArgument
  | some x =>
    s.withLink a.handle true fun l =>
      if l.state = .checking then s.refuse .busy
      else if l.bindings.contains x then s.ok
      else
        match s.boundTo x with
        | some h => s.refuseWith .duplicate (.handle h)
        | none =>
          if 2 ≤ l.bindings.length then s.refuse .tableFull
          else ⟨State.afterTally s (s.rebind a.handle (l.bindings ++ [x])), .ok, .empty⟩

/-- BIND (R121). -/
def execBind (b : ReqBody BindArgs) (s : State) : Host.Outcome State Fault Refusal :=
  .next (s.take 27 false b ownBind)

/-- UNBIND at the Tally Resolver (R122). -/
def ownUnbind (a : InputArgs) (s : State) : Answer :=
  match bindingOf a.source a.input with
  | none => s.refuse .badArgument
  | some x =>
    match s.boundTo x with
    | none => s.refuse .noLink
    | some h => ⟨State.afterTally s (s.rebind h ((s.link h).bindings.erase x)), .ok, .handle h⟩

/-- UNBIND (R122). -/
def execUnbind (b : ReqBody InputArgs) (s : State) : Host.Outcome State Fault Refusal :=
  .next (s.take 28 false b ownUnbind)

/-! ### HOLD LIVE and SUPPRESS (R125, R127) -/

/-- HOLD LIVE at the Tally Resolver (R125). -/
def ownHoldLive (a : FlagArgs) (s : State) : Answer :=
  s.withLink a.handle true fun l =>
    if l.state = .checking then s.refuse .busy
    else if l.holdLive = isOn a.on then s.ok
    else
      ⟨State.afterTally s
        ((s.setLink a.handle { l with holdLive := isOn a.on }).resolveLink a.handle), .ok, .empty⟩

/-- HOLD LIVE (R125). -/
def execHoldLive (b : ReqBody FlagArgs) (s : State) : Host.Outcome State Fault Refusal :=
  .next (s.take 29 false b ownHoldLive)

/-- SUPPRESS at the Tally Resolver (R127). -/
def ownSuppress (a : FlagArgs) (s : State) : Answer :=
  s.withLink a.handle true fun l =>
    if l.state = .checking then s.refuse .busy
    else if l.kind ≠ some .camera then s.refuse .badArgument
    else
      ⟨State.afterTally s
        ((s.setLink a.handle { l with suppress := isOn a.on }).resolveLink a.handle), .ok, .empty⟩

/-- SUPPRESS (R127). -/
def execSuppress (b : ReqBody FlagArgs) (s : State) : Host.Outcome State Fault Refusal :=
  .next (s.take 30 false b ownSuppress)

/-! ### READ TALLY (R130) -/

/-- One source of the READ TALLY report. -/
def State.srcReport (s : State) (v : Src) : SrcReport where
  state := v.state
  remaining := v.deadline.map s.msTo
  program := v.program
  preview := v.preview

/-- READ TALLY at the Tally Resolver (R130). -/
def ownReadTally (_ : Unit) (s : State) : Answer :=
  s.okWith (.tally s.tally.map
    [s.srcReport s.tally.src0, s.srcReport s.tally.src1, s.srcReport s.tally.src2])

/-- READ TALLY (R130). -/
def execReadTally (b : ReqBody Unit) (s : State) : Host.Outcome State Fault Refusal :=
  .next (s.take 31 false b ownReadTally)

/-! ### The tally lines (R113, R114, R193) -/

/-- A message on a tally line is complete or abandoned: its receiver holds nothing. -/
def State.lineDone (s : State) (x : Source) : State :=
  match x with
  | .main => s.setLines { s.lines with line0 := [] }
  | .sub1 => s.setLines { s.lines with line1 := [] }
  | .sub2 => s.setLines { s.lines with line2 := [] }

/-- A source after a well-formed frame (R114). -/
def State.framed (s : State) (x : Source) (a : FrameArgs) : Src where
  state := .live
  program := inputSet x a.program
  preview := inputSet x a.preview
  deadline := s.tally.liveDeadline x s.now

/-- SOURCE_LIVE is queued where the frame finds the source STALE (R114). -/
def State.noteLive (s : State) (x : Source) (was : SrcState) : State :=
  if was = .stale then s.notify (.sourceLive x) else s

/-- A well-formed frame taken at the Tally Resolver (R114). -/
def State.takeFrame (s : State) (x : Source) (a : FrameArgs) : State :=
  State.afterTally s
    ((s.changeSource x (s.framed x a)).noteLive x (s.tally.src x).state)

/-- A complete tally frame on a line (R113). -/
def State.tallyFrame (s : State) (x : Source) (b : LineBody FrameArgs) : State :=
  match b with
  | .badLength => s
  | .badSum => s
  | .fields a =>
    if !s.configured || !s.tally.present x then s
    else if 48 < a.program.length ∨ 48 < a.preview.length then s
    else s.takeFrame x a

/-- TALLY FRAME (R114). -/
def execTallyFrame (line : Source) (b : LineBody FrameArgs) (s : State) :
    Host.Outcome State Fault Refusal :=
  .next (s.event fun s => (s.lineDone line).tallyFrame line b)

/-- A gap of more than 10 ms on a tally line abandons the frame in progress (R193). -/
def execTallyReceiveTimeout (line : Source) (s : State) : Host.Outcome State Fault Refusal :=
  .next (s.event fun s => s.lineDone line)

/-- A complete message on a tally line of another type than 49 is discarded (R193). -/
def execTallyUnknownMessageType (line : Source) (_type : Nat) (s : State) :
    Host.Outcome State Fault Refusal :=
  .next (s.event fun s => s.lineDone line)

/-! ### Liveness (R115) -/

/-- A source's liveness timer expires: STALE, the lists held. -/
def State.livenessExpires (s : State) (x : Source) : State :=
  (s.changeSource x { s.tally.src x with state := .stale, deadline := none }).notify (.sourceStale x)

/-- LIVENESS EXPIRY (R115). -/
def execLivenessExpiry (x : Source) (s : State) : Host.Outcome State Fault Refusal :=
  .next (s.event fun s =>
    match (s.tally.src x).deadline with
    | some d => State.afterTally s ((s.reachTime d).livenessExpires x)
    | none => s)

end Sys2Proof.Machine
end

