-- ==== Sys2Proof/Machine/Venue.lean ====
section
/-! DEFINITION. The requests of chapter 1: LOAD PROFILE, READ PROFILE, BLOCK and UNBLOCK. -/

namespace Sys2Proof.Machine

open Sys2Proof

/-- No carrier is held, no link is CHECKING and no job is held: a profile may be replaced (R5). -/
def State.reloadable (s : State) : Bool :=
  s.occupied.isEmpty && (s.findLink fun l => l.state == .checking).isNone && s.engine.queue.isEmpty

/-- An accepted LOAD PROFILE (R6). A sweep unit under way runs on; its slot is free, so its result is
dropped. -/
def State.installProfile (s : State) (p : Profile) : State :=
  (s.setEngine { s.engine with profile := some p, blocked := Tab.fill 96 false }).setPool
    { slots := Tab.fill 32 none, threshold := 0, armed := true, sweepWanted := false, sweepPos := 0 }

/-- LOAD PROFILE at the Coordination Engine (R3 to R6). -/
def ownLoadProfile (a : ProfileArgs) (s : State) : Answer :=
  match profileBadField a with
  | some n => s.refuseWith .badArgument (.fieldNumber n)
  | none =>
    if s.configured && !s.reloadable then s.refuse .notEmpty
    else (s.installProfile (profileStored a)).okWith (.profile (profileStored a))

/-- LOAD PROFILE (R6). -/
def execLoadProfile (b : ReqBody ProfileArgs) (s : State) : Host.Outcome State Fault Refusal :=
  .next (s.take 1 true b ownLoadProfile)

/-- READ PROFILE at the Coordination Engine (R7). -/
def ownReadProfile (_ : Unit) (s : State) : Answer :=
  s.okWith (.profileMap s.engine.prof (blockedList s.engine.blocked))

/-- READ PROFILE (R7). -/
def execReadProfile (b : ReqBody Unit) (s : State) : Host.Outcome State Fault Refusal :=
  .next (s.take 2 false b ownReadProfile)

/-- The lowest occupied carrier, by key, that touches channel `k` (R15). -/
def State.lowestTouching (s : State) (k : Nat) : Option Party :=
  s.occupied.find? fun c => s.engine.prof.touches c.step c.half k

/-- The spares after channel `k` is blocked: each CLEAR or UNCHECKED one that touches it is SPOILED. -/
def Pool.spoilTouching (pool : Pool) (p : Profile) (k : Nat) : Pool :=
  { pool with slots := pool.slots.mapIdx fun _ x => x.map fun sp =>
    if sp.status ≠ .spoiled ∧ p.touches sp.step (p.cls sp.cls).halfWidth k then sp.spoiled else sp }

/-- Channel `k` is marked blocked (R15, step 4). -/
def State.blockChannel (s : State) (k : Nat) : State :=
  ((s.setEngine { s.engine with blocked := s.engine.blocked.set k true }).setPool
    (s.pool.spoilTouching s.engine.prof k)).lowPoolSince s.pool.clearCount

/-- The key of a carrier as a response names it. -/
def Party.at (c : Party) : RespBody :=
  match c.key with
  | .held h o => .carrierAt h o c.step
  | .candidate => .empty

/-- BLOCK at the Coordination Engine (R15). -/
def ownBlock (k : Nat) (s : State) : Answer :=
  if 95 < k then s.refuse .badArgument
  else if s.engine.blocked.get k false then s.ok
  else
    match s.lowestTouching k with
    | some c => s.refuseWith .conflict c.at
    | none => (s.blockChannel k).ok

/-- BLOCK (R15). -/
def execBlock (b : ReqBody Nat) (s : State) : Host.Outcome State Fault Refusal :=
  .next (s.take 3 false b ownBlock)

/-- UNBLOCK at the Coordination Engine (R16). -/
def ownUnblock (k : Nat) (s : State) : Answer :=
  if 95 < k then s.refuse .badArgument
  else if s.engine.blocked.get k false then
    State.done s
      ((s.setEngine { s.engine with blocked := s.engine.blocked.set k false }).wantSweep) .ok .empty
  else s.ok

/-- UNBLOCK (R16). -/
def execUnblock (b : ReqBody Nat) (s : State) : Host.Outcome State Fault Refusal :=
  .next (s.take 4 false b ownUnblock)

end Sys2Proof.Machine
end

