-- ==== Sys2Proof/Machine/Dispatch.lean ====
section
/-! DEFINITION. The meaning of every command: one arm per constructor of Instr, each a direct call. -/

namespace Sys2Proof.Machine

open Sys2Proof

def exec (i : Instr) (s : State) : Host.Outcome State Fault Refusal :=
  match i with
  | .loadProfile b => Sys2Proof.Machine.execLoadProfile b s
  | .readProfile b => Sys2Proof.Machine.execReadProfile b s
  | .block b => Sys2Proof.Machine.execBlock b s
  | .unblock b => Sys2Proof.Machine.execUnblock b s
  | .queryLink b => Sys2Proof.Machine.execQueryLink b s
  | .findLabel b => Sys2Proof.Machine.execFindLabel b s
  | .findFrequency b => Sys2Proof.Machine.execFindFrequency b s
  | .findBinding b => Sys2Proof.Machine.execFindBinding b s
  | .listLinks b => Sys2Proof.Machine.execListLinks b s
  | .setLabel b => Sys2Proof.Machine.execSetLabel b s
  | .setPolicy b => Sys2Proof.Machine.execSetPolicy b s
  | .admitLink b => Sys2Proof.Machine.execAdmit b s
  | .retune b => Sys2Proof.Machine.execRetune b s
  | .moveZones b => Sys2Proof.Machine.execMoveZones b s
  | .cancelRetune b => Sys2Proof.Machine.execCancelRetune b s
  | .tuneNow b => Sys2Proof.Machine.execTuneNow b s
  | .retire b => Sys2Proof.Machine.execRetire b s
  | .discard b => Sys2Proof.Machine.execDiscard b s
  | .seedSpare b => Sys2Proof.Machine.execSeedSpare b s
  | .dropSpare b => Sys2Proof.Machine.execDropSpare b s
  | .readPool b => Sys2Proof.Machine.execReadPool b s
  | .setPoolThreshold b => Sys2Proof.Machine.execSetPoolThreshold b s
  | .answerReferral b => Sys2Proof.Machine.execAnswerReferral b s
  | .declineReferral b => Sys2Proof.Machine.execDeclineReferral b s
  | .loadTallyMap b => Sys2Proof.Machine.execLoadTallyMap b s
  | .clearSource b => Sys2Proof.Machine.execClearSource b s
  | .bind b => Sys2Proof.Machine.execBind b s
  | .unbind b => Sys2Proof.Machine.execUnbind b s
  | .holdLive b => Sys2Proof.Machine.execHoldLive b s
  | .suppress b => Sys2Proof.Machine.execSuppress b s
  | .readTally b => Sys2Proof.Machine.execReadTally b s
  | .defineKey b => Sys2Proof.Machine.execDefineKey b s
  | .deleteKey b => Sys2Proof.Machine.execDeleteKey b s
  | .defineDest b => Sys2Proof.Machine.execDefineDest b s
  | .setTarget b => Sys2Proof.Machine.execSetTarget b s
  | .setWatch b => Sys2Proof.Machine.execSetWatch b s
  | .deleteDest b => Sys2Proof.Machine.execDeleteDest b s
  | .setLast b => Sys2Proof.Machine.execSetLast b s
  | .clearTalk b => Sys2Proof.Machine.execClearTalk b s
  | .queryDest b => Sys2Proof.Machine.execQueryDest b s
  | .queryKey b => Sys2Proof.Machine.execQueryKey b s
  | .stageDown b => Sys2Proof.Machine.execStageDown b s
  | .stageListen b => Sys2Proof.Machine.execStageListen b s
  | .stageUp b => Sys2Proof.Machine.execStageUp b s
  | .commit b => Sys2Proof.Machine.execCommit b s
  | .discardPlan b => Sys2Proof.Machine.execDiscardPlan b s
  | .readPlan b => Sys2Proof.Machine.execReadPlan b s
  | .readSummary b => Sys2Proof.Machine.execReadSummary b s
  | .unrecognisedRequest code => Sys2Proof.Machine.execUnrecognisedRequest code s
  | .framingError bytes bits => Sys2Proof.Machine.execFramingError bytes bits s
  | .collect => Sys2Proof.Machine.execCollect s
  | .collectEnd clocked => Sys2Proof.Machine.execCollectEnd clocked s
  | .checkCompletion => Sys2Proof.Machine.execCheckCompletion s
  | .trialEnd => Sys2Proof.Machine.execTrialEnd s
  | .sweepUnitCompletion => Sys2Proof.Machine.execSweepUnitCompletion s
  | .settleTimerExpiry handle => Sys2Proof.Machine.execSettleTimerExpiry handle s
  | .releaseTimerExpiry handle => Sys2Proof.Machine.execReleaseTimerExpiry handle s
  | .referralTimerExpiry handle => Sys2Proof.Machine.execReferralTimerExpiry handle s
  | .tuned b => Sys2Proof.Machine.execTuned b s
  | .muted b => Sys2Proof.Machine.execMuted b s
  | .interference b => Sys2Proof.Machine.execInterference b s
  | .carrierLoss b => Sys2Proof.Machine.execCarrierLoss b s
  | .carrierBack b => Sys2Proof.Machine.execCarrierBack b s
  | .key b => Sys2Proof.Machine.execKey b s
  | .radioReceiveTimeout => Sys2Proof.Machine.execRadioReceiveTimeout s
  | .ctsAsserted => Sys2Proof.Machine.execCtsAsserted s
  | .radioMessageComplete => Sys2Proof.Machine.execRadioMessageComplete s
  | .press b => Sys2Proof.Machine.execPress b s
  | .release b => Sys2Proof.Machine.execRelease b s
  | .matrixReceiveTimeout => Sys2Proof.Machine.execMatrixReceiveTimeout s
  | .routeComplete => Sys2Proof.Machine.execRouteComplete s
  | .tallyFrame line b => Sys2Proof.Machine.execTallyFrame line b s
  | .tallyReceiveTimeout line => Sys2Proof.Machine.execTallyReceiveTimeout line s
  | .livenessExpiry source => Sys2Proof.Machine.execLivenessExpiry source s
  | .talkDeadlineExpiry key => Sys2Proof.Machine.execTalkDeadlineExpiry key s
  | .frameMark => Sys2Proof.Machine.execFrameMark s
  | .hardwareReset => Sys2Proof.Machine.execHardwareReset s
  | .ctsWithdrawn => Sys2Proof.Machine.execCtsWithdrawn s
  | .resetRisingEdge selLow => Sys2Proof.Machine.execResetRisingEdge selLow s
  | .radioUnknownReportType type => Sys2Proof.Machine.execRadioUnknownReportType type s
  | .matrixUnknownEventType type => Sys2Proof.Machine.execMatrixUnknownEventType type s
  | .tallyUnknownMessageType line type => Sys2Proof.Machine.execTallyUnknownMessageType line type s

end Sys2Proof.Machine
end

