-- ==== Sys2Proof/Safety.lean ====
section
/-! DEFINITION. The words statements about the part are made of: when it takes requests and events, when
the end of an event begins nothing, and the invariants that every step keeps. -/

namespace Sys2Proof

/-! ### Kinds of command -/

/-- The body of a request has the length its code calls for. -/
def ReqBody.lengthOk {α : Type} : ReqBody α → Bool
  | .args _ => true
  | .badLength => false

/-- The code of a correctly framed request, and whether its length is right (R181, Table 11-1). -/
def Instr.request : Instr → Option (Nat × Bool)
  | .loadProfile b => some (1, b.lengthOk)
  | .readProfile b => some (2, b.lengthOk)
  | .block b => some (3, b.lengthOk)
  | .unblock b => some (4, b.lengthOk)
  | .queryLink b => some (5, b.lengthOk)
  | .findLabel b => some (6, b.lengthOk)
  | .findFrequency b => some (7, b.lengthOk)
  | .findBinding b => some (8, b.lengthOk)
  | .listLinks b => some (9, b.lengthOk)
  | .setLabel b => some (10, b.lengthOk)
  | .setPolicy b => some (11, b.lengthOk)
  | .admitLink b => some (12, b.lengthOk)
  | .retune b => some (13, b.lengthOk)
  | .moveZones b => some (14, b.lengthOk)
  | .cancelRetune b => some (15, b.lengthOk)
  | .tuneNow b => some (16, b.lengthOk)
  | .retire b => some (17, b.lengthOk)
  | .discard b => some (18, b.lengthOk)
  | .seedSpare b => some (19, b.lengthOk)
  | .dropSpare b => some (20, b.lengthOk)
  | .readPool b => some (21, b.lengthOk)
  | .setPoolThreshold b => some (22, b.lengthOk)
  | .answerReferral b => some (23, b.lengthOk)
  | .declineReferral b => some (24, b.lengthOk)
  | .loadTallyMap b => some (25, b.lengthOk)
  | .clearSource b => some (26, b.lengthOk)
  | .bind b => some (27, b.lengthOk)
  | .unbind b => some (28, b.lengthOk)
  | .holdLive b => some (29, b.lengthOk)
  | .suppress b => some (30, b.lengthOk)
  | .readTally b => some (31, b.lengthOk)
  | .defineKey b => some (32, b.lengthOk)
  | .deleteKey b => some (33, b.lengthOk)
  | .defineDest b => some (34, b.lengthOk)
  | .setTarget b => some (35, b.lengthOk)
  | .setWatch b => some (36, b.lengthOk)
  | .deleteDest b => some (37, b.lengthOk)
  | .setLast b => some (38, b.lengthOk)
  | .clearTalk b => some (39, b.lengthOk)
  | .queryDest b => some (40, b.lengthOk)
  | .queryKey b => some (41, b.lengthOk)
  | .stageDown b => some (42, b.lengthOk)
  | .stageListen b => some (43, b.lengthOk)
  | .stageUp b => some (44, b.lengthOk)
  | .commit b => some (45, b.lengthOk)
  | .discardPlan b => some (46, b.lengthOk)
  | .readPlan b => some (47, b.lengthOk)
  | .readSummary b => some (48, b.lengthOk)
  | .unrecognisedRequest code => some (code, true)
  | .framingError _ _ => none
  | .collect => none
  | .collectEnd _ => none
  | .checkCompletion => none
  | .trialEnd => none
  | .sweepUnitCompletion => none
  | .settleTimerExpiry _ => none
  | .releaseTimerExpiry _ => none
  | .referralTimerExpiry _ => none
  | .tuned _ => none
  | .muted _ => none
  | .interference _ => none
  | .carrierLoss _ => none
  | .carrierBack _ => none
  | .key _ => none
  | .radioReceiveTimeout => none
  | .ctsAsserted => none
  | .radioMessageComplete => none
  | .press _ => none
  | .release _ => none
  | .matrixReceiveTimeout => none
  | .routeComplete => none
  | .tallyFrame _ _ => none
  | .tallyReceiveTimeout _ => none
  | .livenessExpiry _ => none
  | .talkDeadlineExpiry _ => none
  | .frameMark => none
  | .hardwareReset => none
  | .ctsWithdrawn => none
  | .resetRisingEdge _ => none
  | .radioUnknownReportType _ => none
  | .matrixUnknownEventType _ => none
  | .tallyUnknownMessageType _ _ => none

/-- The lookups: requests that report and change no state. -/
def Instr.lookup : Instr → Bool
  | .loadProfile _ => false
  | .readProfile _ => true
  | .block _ => false
  | .unblock _ => false
  | .queryLink _ => true
  | .findLabel _ => true
  | .findFrequency _ => true
  | .findBinding _ => true
  | .listLinks _ => true
  | .setLabel _ => false
  | .setPolicy _ => false
  | .admitLink _ => false
  | .retune _ => false
  | .moveZones _ => false
  | .cancelRetune _ => false
  | .tuneNow _ => false
  | .retire _ => false
  | .discard _ => false
  | .seedSpare _ => false
  | .dropSpare _ => false
  | .readPool _ => true
  | .setPoolThreshold _ => false
  | .answerReferral _ => false
  | .declineReferral _ => false
  | .loadTallyMap _ => false
  | .clearSource _ => false
  | .bind _ => false
  | .unbind _ => false
  | .holdLive _ => false
  | .suppress _ => false
  | .readTally _ => true
  | .defineKey _ => false
  | .deleteKey _ => false
  | .defineDest _ => false
  | .setTarget _ => false
  | .setWatch _ => false
  | .deleteDest _ => false
  | .setLast _ => false
  | .clearTalk _ => false
  | .queryDest _ => true
  | .queryKey _ => true
  | .stageDown _ => false
  | .stageListen _ => false
  | .stageUp _ => false
  | .commit _ => false
  | .discardPlan _ => false
  | .readPlan _ => true
  | .readSummary _ => false
  | .unrecognisedRequest _ => false
  | .framingError _ _ => false
  | .collect => false
  | .collectEnd _ => false
  | .checkCompletion => false
  | .trialEnd => false
  | .sweepUnitCompletion => false
  | .settleTimerExpiry _ => false
  | .releaseTimerExpiry _ => false
  | .referralTimerExpiry _ => false
  | .tuned _ => false
  | .muted _ => false
  | .interference _ => false
  | .carrierLoss _ => false
  | .carrierBack _ => false
  | .key _ => false
  | .radioReceiveTimeout => false
  | .ctsAsserted => false
  | .radioMessageComplete => false
  | .press _ => false
  | .release _ => false
  | .matrixReceiveTimeout => false
  | .routeComplete => false
  | .tallyFrame _ _ => false
  | .tallyReceiveTimeout _ => false
  | .livenessExpiry _ => false
  | .talkDeadlineExpiry _ => false
  | .frameMark => false
  | .hardwareReset => false
  | .ctsWithdrawn => false
  | .resetRisingEdge _ => false
  | .radioUnknownReportType _ => false
  | .matrixUnknownEventType _ => false
  | .tallyUnknownMessageType _ _ => false

/-- The commands of the RESET# and CTS pins, which act whatever the level of RESET#. -/
def Instr.onPin : Instr → Bool
  | .loadProfile _ => false
  | .readProfile _ => false
  | .block _ => false
  | .unblock _ => false
  | .queryLink _ => false
  | .findLabel _ => false
  | .findFrequency _ => false
  | .findBinding _ => false
  | .listLinks _ => false
  | .setLabel _ => false
  | .setPolicy _ => false
  | .admitLink _ => false
  | .retune _ => false
  | .moveZones _ => false
  | .cancelRetune _ => false
  | .tuneNow _ => false
  | .retire _ => false
  | .discard _ => false
  | .seedSpare _ => false
  | .dropSpare _ => false
  | .readPool _ => false
  | .setPoolThreshold _ => false
  | .answerReferral _ => false
  | .declineReferral _ => false
  | .loadTallyMap _ => false
  | .clearSource _ => false
  | .bind _ => false
  | .unbind _ => false
  | .holdLive _ => false
  | .suppress _ => false
  | .readTally _ => false
  | .defineKey _ => false
  | .deleteKey _ => false
  | .defineDest _ => false
  | .setTarget _ => false
  | .setWatch _ => false
  | .deleteDest _ => false
  | .setLast _ => false
  | .clearTalk _ => false
  | .queryDest _ => false
  | .queryKey _ => false
  | .stageDown _ => false
  | .stageListen _ => false
  | .stageUp _ => false
  | .commit _ => false
  | .discardPlan _ => false
  | .readPlan _ => false
  | .readSummary _ => false
  | .unrecognisedRequest _ => false
  | .framingError _ _ => false
  | .collect => false
  | .collectEnd _ => false
  | .checkCompletion => false
  | .trialEnd => false
  | .sweepUnitCompletion => false
  | .settleTimerExpiry _ => false
  | .releaseTimerExpiry _ => false
  | .referralTimerExpiry _ => false
  | .tuned _ => false
  | .muted _ => false
  | .interference _ => false
  | .carrierLoss _ => false
  | .carrierBack _ => false
  | .key _ => false
  | .radioReceiveTimeout => false
  | .ctsAsserted => true
  | .radioMessageComplete => false
  | .press _ => false
  | .release _ => false
  | .matrixReceiveTimeout => false
  | .routeComplete => false
  | .tallyFrame _ _ => false
  | .tallyReceiveTimeout _ => false
  | .livenessExpiry _ => false
  | .talkDeadlineExpiry _ => false
  | .frameMark => false
  | .hardwareReset => true
  | .ctsWithdrawn => true
  | .resetRisingEdge _ => true
  | .radioUnknownReportType _ => false
  | .matrixUnknownEventType _ => false
  | .tallyUnknownMessageType _ _ => false

end Sys2Proof

namespace Sys2Proof.Machine

open Sys2Proof

/-! ### When requests and events are taken -/

/-- A request transaction reaches the port: no reset, no transaction left from one, no collect (R180, R183,
R194). -/
def State.listening (s : State) : Prop :=
  s.pins.inReset = false ∧ s.pins.selHeld = false ∧ s.port.transaction ≠ .collect

/-- A request is judged: none is owed an answer (R181). -/
def State.free (s : State) : Prop := s.listening ∧ s.port.owed = none

/-- A request is passed to its owner: the part is CONFIGURED too (R8, R181). -/
def State.accepts (s : State) : Prop := s.free ∧ s.configured = true

/-- Traffic is taken: no reset, and CONFIGURED (R9, R194). -/
def State.live (s : State) : Prop := s.pins.inReset = false ∧ s.configured = true

/-- The engine's next choice of work completes nothing at once: it is at work, or no job waits, or the head
job starts a check or a trial (R42, R60). -/
def State.quiet (s : State) : Prop :=
  s.engine.work = .idle → ∀ j, s.engine.queue.head? = some j →
    j.step.isSome = true ∨ (s.pool.pick j).isSome = true

/-- No message begins on RTX: one is leaving, or CTS is withdrawn (R170). -/
def State.radioHeld (s : State) : Prop := s.radio.sending.isSome = true ∨ s.radio.cts = false

/-- A record without the four fields a transmitter's start may write: the order, the timer, the lamp owed
and the last lamp sent (R172). -/
def Link.lasting (l : Link) : Link :=
  { l with order := none, timer := none, lampOwed := false, lastLamp := Lamp.dark }

/-- Every record but that of `h` is as it was, save what a transmitter's start writes. -/
def State.otherLinks (s t : State) (h : Nat) : Prop :=
  ∀ g, g ≠ h → (t.link g).lasting = (s.link g).lasting

/-- What no block's own work touches: the Tally Resolver's map and sources, the line receivers, the pins,
the timebase and the waiting commands. -/
def State.sameOutside (s t : State) : Prop :=
  t.tally = s.tally ∧ t.lines = s.lines ∧ t.pins = s.pins ∧ t.now = s.now ∧ t.pending = s.pending

/-- The profile, the Blocked-Channel Map, the plans and the receivers are as they were. -/
def State.sameVenue (s t : State) : Prop :=
  t.engine.profile = s.engine.profile ∧ t.engine.blocked = s.engine.blocked ∧ t.plans = s.plans
    ∧ t.radio.cts = s.radio.cts ∧ t.radio.received = s.radio.received ∧ t.mtx.received = s.mtx.received

/-- An answer is owed and nothing else of the port has changed but the end of the transaction. -/
def State.answeredOnly (s t : State) (code : Nat) (st : Status) (body : RespBody) : Prop :=
  t.port = { s.port.ended with owed := some ⟨code, st, body⟩ }

/-- Record `h` becomes `l`, save for what a transmitter's start may write; exactly `l` where none may
begin. -/
def State.linkBecomes (s t : State) (h : Nat) (l : Link) : Prop :=
  (t.link h).lasting = l.lasting ∧ (s.radioHeld → t.link h = l)

/-- A job offered to the engine waits, or starts a check or a trial: it does not complete at once. -/
def State.startsOrWaits (s : State) (j : Job) : Prop :=
  s.engine.work ≠ .idle
    ∨ s.engine.queue = [] ∧ (j.step.isSome = true ∨ (s.pool.pick j).isSome = true)

/-- The jobs behind the running one complete nothing at once: none waits, or the next names its step. -/
def calmRest (rest : List Job) : Prop := ∀ j, rest.head? = some j → j.step.isSome = true

/-! ### Work of the Coordination Engine and the Spare Pool (R62, R63, R95 to R97, R101) -/

/-- The low-pool evaluation of an event that leaves the port as `p` but for it: made where the number of
CLEAR spares has changed, with the number the event leaves (R101). -/
def State.lowPoolJudged (s t : State) (p : Port) : Prop :=
  t.pool.threshold = s.pool.threshold
    ∧ (t.pool.clearCount = s.pool.clearCount
        ∨ t.pool.clearCount ≤ s.pool.threshold ∧ s.pool.armed = false →
      t.pool.armed = s.pool.armed ∧ t.port = p)
    ∧ (t.pool.clearCount ≠ s.pool.clearCount → s.pool.threshold < t.pool.clearCount →
      t.pool.armed = true ∧ t.port = p)
    ∧ (t.pool.clearCount ≠ s.pool.clearCount → t.pool.clearCount ≤ s.pool.threshold →
      s.pool.armed = true →
      t.pool.armed = false ∧ t.port = p.queue (.poolLow t.pool.clearCount s.pool.threshold))

/-- A spare after a recheck of it that left state `t`: a CLEAR one is judged against the occupied set, the
span and the map of `t`, any other keeps its status and its margin (R95). -/
def State.rejudged (t : State) (sp sp' : Spare) : Prop :=
  sp'.step = sp.step ∧ sp'.cls = sp.cls ∧ sp'.zones = sp.zones
    ∧ (sp.status ≠ .clear → sp'.status = sp.status ∧ sp'.margin = sp.margin)
    ∧ (sp.status = .clear →
      (∀ m tm, t.check t.occupied (candidate t.engine.prof none sp.step sp.cls sp.zones) = .pass m tm →
        sp'.status = .clear ∧ sp'.margin = some m)
      ∧ ∀ e, t.check t.occupied (candidate t.engine.prof none sp.step sp.cls sp.zones) = .fail e →
        sp'.status = .spoiled ∧ sp'.margin = none)

/-- The content of a slot after a recheck of the pool (R95). -/
def State.slotRejudged (s t : State) (i : Nat) : Prop :=
  (s.pool.slots.get i none = none → t.pool.slots.get i none = none)
    ∧ ∀ sp, s.pool.slots.get i none = some sp →
      ∃ sp', t.pool.slots.get i none = some sp' ∧ t.rejudged sp sp'

/-- The spare of a slot keeps all but its in-use mark. -/
def State.slotKept (s t : State) (i : Nat) : Prop :=
  (t.pool.slots.get i none).map (fun sp => { sp with inUse := .none })
    = (s.pool.slots.get i none).map fun sp => { sp with inUse := .none }

/-- An IDLE engine with an empty queue has looked for sweep work in pool `p`, from slot 0: it runs a unit for
the lowest spare that is not CLEAR, or the pass is finished (R43, R61, R97). -/
def Pool.swept (p : Pool) (t : State) : Prop :=
  ((∀ i sp, p.slots.get i none = some sp → sp.status = .clear) →
      t.engine.work = .idle ∧ t.pool = { p with sweepWanted := false, sweepPos := 0 })
    ∧ ∀ i sp, p.slots.get i none = some sp → sp.status ≠ .clear →
      (∀ k sp', k < i → p.slots.get k none = some sp' → sp'.status = .clear) →
      t.engine.work = .sweep t.occupied i (candidate t.engine.prof none sp.step sp.cls sp.zones)
        ∧ t.pool = { p with
            slots := p.slots.set i (some { sp with inUse := .sweep }), sweepPos := i + 1 }

/-- An event that leaves the pool as `p` sets sweep-wanted: an engine at work goes on, and one that is IDLE
with an empty queue looks for sweep work in that event (R96). -/
def State.sweepAsked (s : State) (p : Pool) (t : State) : Prop :=
  (s.engine.work ≠ .idle →
      t.pool = { p with sweepWanted := true, sweepPos := 0 } ∧ t.engine.work = s.engine.work)
    ∧ (s.engine.work = .idle → s.engine.queue = [] →
      Pool.swept { p with sweepWanted := true, sweepPos := 0 } t)

/-- The job of link `h` is voided: the running one is marked and stays at the head, a waiting one leaves the
queue, and the others keep their order (R62, R63). -/
def State.jobVoided (s t : State) (h : Nat) : Prop :=
  (∀ occ trial failures j rest, s.engine.work = .job occ trial failures → s.engine.queue = j :: rest →
      (j.handle = h → j.void = false → t.engine.queue = { j with void := true } :: rest)
      ∧ (j.handle ≠ h ∨ j.void = true → t.engine.queue = j :: rest.filter fun k => k.handle != h))
    ∧ ((∀ occ trial failures, s.engine.work ≠ .job occ trial failures) →
      t.engine.queue = s.engine.queue.filter fun k => k.handle != h)

/-! ### Links that leave the plan-eligible states (R148, R165) -/

/-- The pack entry of link `h` is gone from both plans, and plan owed is set, or the PLAN begins, where there
was one (R165). -/
def State.trimmed (s t : State) (h : Nat) : Prop :=
  t.plans.active = { s.plans.active with packs := s.plans.active.packs.filter fun e => e.handle != h }
    ∧ t.plans.pending
      = { s.plans.pending with packs := s.plans.pending.packs.filter fun e => e.handle != h }
    ∧ t.plans.state = s.plans.state ∧ t.plans.number = s.plans.number
    ∧ ((∃ e, (e ∈ s.plans.active.packs ∨ e ∈ s.plans.pending.packs) ∧ e.handle = h) →
      (t.radio.planOwed = true ∨ t.radio.sending = some (.plan s.plans.number t.plans.active))
      ∧ (s.radioHeld → t.radio.planOwed = true))
    ∧ ((∀ e, e ∈ s.plans.active.packs ∨ e ∈ s.plans.pending.packs → e.handle ≠ h) → s.radioHeld →
      t.radio.planOwed = s.radio.planOwed)

/-- The WAITING and TALKING keys of pack `h` have become IDLE, and its other keys are as they were (R148). -/
def State.packSilenced (s t : State) (h : Nat) : Prop :=
  ∀ k x b, s.talk.key k = some x → x.origin = .pack h b →
    (x.state = .waiting ∨ x.state = .talking →
      t.talk.key k = some { x with state := .idle, deadline := none })
    ∧ (x.state = .idle ∨ x.state = .disabled → t.talk.key k = some x)

/-! ### On-air changes (R28, R74, R124, R128) -/

/-- A record without its state, its order and its timer, and without what resolution and a LAMP write. -/
def Link.apartFromTally (l : Link) : Link :=
  { l with state := .free, order := none, timer := none, lampOwed := false, lastLamp := Lamp.dark
           bindings := [], tally := .none, stale := false }

/-- The on-air change of link `h` from `s` to `t`, if there is one, has been taken at the Link Table: a retune
that waits is released when its link leaves air, an unforced one whose TUNE has not been sent waits again when
its link goes on air, and nothing else changes its state, its order or its timer (R74). -/
def State.onAirTaken (s t : State) (h : Nat) : Prop :=
  ((s.link h).state = .retuneWait → s.onAir h = true → t.onAir h = false →
      (t.link h).state = .settling
      ∧ (s.radioHeld → (t.link h).order = (s.link h).target.map .tune ∧ (t.link h).timer = none))
    ∧ (∀ f, (s.link h).state = .settling → (s.link h).carrier.isSome = true →
        (s.link h).forced = false → (s.link h).target = some f → (s.link h).order = some (.tune f) →
        s.onAir h = false → t.onAir h = true →
      (t.link h).state = .retuneWait ∧ (t.link h).order = none ∧ (t.link h).timer = none)
    ∧ (s.onAir h = t.onAir h
        ∨ (s.link h).state ≠ .retuneWait ∧ (s.link h).state ≠ .settling
        ∨ (s.link h).state = .retuneWait ∧ t.onAir h = true
        ∨ (s.link h).state = .settling ∧ (t.onAir h = false ∨ (s.link h).carrier = none
          ∨ (s.link h).forced = true ∨ (s.link h).order = none) →
      (t.link h).state = (s.link h).state
      ∧ (s.radioHeld → (t.link h).order = (s.link h).order ∧ (t.link h).timer = (s.link h).timer))

/-- The lamp of a record that has been recomputed: a CAMERA link whose lamp value differs from the last lamp
sent owes a LAMP, and one that was owed stays owed, where no message begins (R128). -/
def State.lampFollows (s t : State) (h : Nat) : Prop :=
  s.radioHeld →
    (t.link h).lampOwed = ((s.link h).lampOwed
      || ((s.link h).kind == some .camera && (t.link h).lamp != (s.link h).lastLamp))
    ∧ (t.link h).lastLamp = (s.link h).lastLamp

/-- Every destination's standing is the one computed for it (R139, R140, R147). -/
def State.standing (t : State) : Prop :=
  ∀ id d, t.talk.dest id = some d → d.routed = t.routed id d ∧ d.restricted = t.restricted d

/-! ### Key events (R142, R175, R177) -/

/-- The event of the button an origin names, going down or up. -/
def Origin.event (o : Origin) (press : Bool) : Instr :=
  match o with
  | .panel p b => if press then .press (.fields ⟨p, b⟩) else .release (.fields ⟨p, b⟩)
  | .pack h k => .key (.fields ⟨h, k, press.toNat⟩)

/-- The port accepts the events of an origin (R174, R175, R177). -/
def State.hears (s : State) (o : Origin) : Prop :=
  match o with
  | .panel p b => panelOk p b = true
  | .pack h k => h ≤ 159 ∧ k ≤ 3 ∧ (s.link h).state ≠ .free ∧ (s.link h).kind = some .beltpack
      ∧ s.plans.active.hasUp h = true

/-- Key `k` is the one an origin's events drive. -/
def Talk.drives (t : Talk) (o : Origin) (k : Nat) (x : Key) : Prop :=
  t.key k = some x ∧ x.origin = o ∧ ∀ j y, j < k → t.key j = some y → y.origin ≠ o

/-- Every key but `k` and every destination but `id` are as they were. -/
def Talk.others (t u : Talk) (k id : Nat) : Prop :=
  (∀ j, j ≠ k → u.key j = t.key j) ∧ ∀ i, i ≠ id → u.dest i = t.dest i

/-- The keys that a refill grants once key `k` has left the talking set: the first eligible ones of the
waiting list, as many as there are places (R143). -/
def Talk.granted (t : Talk) (d : Dest) (k : Nat) : List Nat :=
  (d.waiting.filter (t.eligible d)).take (d.limit - (d.talking.erase k).length)

/-- Talker `v` is the least urgent of a talking set: none has a higher level number, and those granted after
it have lower ones (R145). -/
def Talk.isLeastUrgent (t : Talk) (talking : List Nat) (v : Nat) : Prop :=
  ∃ before after, talking = before ++ v :: after
    ∧ (∀ j, j ∈ before → t.level j ≤ t.level v) ∧ ∀ j, j ∈ after → t.level j < t.level v

/-- What the end of the talk of key `k` leaves at its destination and among the keys: the key IDLE and out of
every list but its ring, which turns while rotation is on; and the destination refilled, each key granted a
place TALKING with its deadline (R143, R146, R152). -/
def Talk.talkEnded (t u : Talk) (now k : Nat) (x : Key) (d : Dest) : Prop :=
  u.key k = some { x with state := .idle, deadline := none }
    ∧ (∃ e, u.dest x.dest = some e
        ∧ e.talking = d.talking.erase k ++ t.granted d k
        ∧ e.waiting = d.waiting.filter (fun j => !(t.granted d k).contains j)
        ∧ e.requests = d.requests.erase k
        ∧ (d.rotation = true → x.level ≤ 7 → e.ring x.level = (d.ring x.level).erase k ++ [k])
        ∧ (∀ l, l ≠ x.level → e.ring l = d.ring l)
        ∧ (d.rotation = false → e.rings = d.rings))
    ∧ (∀ j y, j ∈ t.granted d k → t.key j = some y →
        u.key j = some { y with state := .talking, deadline := d.deadline now })
    ∧ (∀ j, j ≠ k → j ∉ t.granted d k → u.key j = t.key j)
    ∧ ∀ i, i ≠ x.dest → u.dest i = t.dest i

/-! ### Settled: nothing that could begin has been left waiting (R42, R43, R170, R178) -/

/-- An IDLE engine has no job and no sweep wanted. -/
def State.engineSettled (s : State) : Prop :=
  s.engine.work = .idle → s.engine.queue = [] ∧ s.pool.sweepWanted = false

/-- An IDLE Radio Port with CTS asserted has nothing sendable; nor has one under reset. -/
def State.radioSettled (s : State) : Prop :=
  s.radio.sending = none → (s.radio.cts = true ∨ s.pins.inReset = true) →
    s.radio.planOwed = false ∧ ∀ h, h < 160 → (s.link h).sendable = false

/-- An IDLE Matrix Port has no route owed. -/
def State.matrixSettled (s : State) : Prop :=
  s.mtx.sending = none → ∀ id, id < 32 → s.mtx.owed.get id false = false

def State.settled (s : State) : Prop := s.engineSettled ∧ s.radioSettled ∧ s.matrixSettled

/-! ### The Control Port and its queues (R40, R186) -/

/-- At most 16 notices and 12 jobs. -/
def State.bounded (s : State) : Prop := s.port.notices.length ≤ 16 ∧ s.engine.queue.length ≤ 12

/-- What a collect presents is still where it was chosen; a notice is presented only while no response is
owed. -/
def State.portSound (s : State) : Prop :=
  (s.port.transaction = .collect ↔ s.port.presented.isSome = true)
    ∧ (∀ r, s.port.presented = some (.response r) → s.port.owed = some r)
    ∧ (∀ n, s.port.presented = some (.notice n) → s.port.owed = none ∧ s.port.notices.head? = some n)

/-! ### The Spare Pool (R91) -/

/-- No two spares have one step. -/
def Pool.distinct (p : Pool) : Prop :=
  ∀ i j a b, p.slots.get i none = some a → p.slots.get j none = some b → i ≠ j → a.step ≠ b.step

/-! ### The Talk Arbiter (R131, R134, R139, R140, R143) -/

/-- The lists of one destination hold its TALKING and its WAITING keys, each once, the talking keys within
the limit. -/
def Talk.destSound (t : Talk) (id : Nat) (d : Dest) : Prop :=
  d.talking.Nodup ∧ d.waiting.Nodup ∧ d.talking.length ≤ d.limit
    ∧ (∀ k, k ∈ d.talking → ∃ x, t.key k = some x ∧ x.dest = id ∧ x.state = .talking)
    ∧ (∀ k, k ∈ d.waiting → ∃ x, t.key k = some x ∧ x.dest = id ∧ x.state = .waiting)

/-- A TALKING or WAITING key stands in the list of its destination. -/
def Talk.keySound (t : Talk) (k : Nat) (x : Key) : Prop :=
  (x.state = .talking → ∃ d, t.dest x.dest = some d ∧ k ∈ d.talking)
    ∧ (x.state = .waiting → ∃ d, t.dest x.dest = some d ∧ k ∈ d.waiting)

/-- The talk lists agree with the keys' states. -/
def Talk.sound (t : Talk) : Prop :=
  (∀ id d, t.dest id = some d → t.destSound id d) ∧ (∀ k x, t.key k = some x → t.keySound k x)

/-- Key `a` stands before key `b` in the waiting order: by level, then by ring position with rotation on and
by request order with rotation off (R141). -/
def Talk.waitsBefore (t : Talk) (d : Dest) (a b : Nat) : Prop :=
  t.level a < t.level b
    ∨ t.level a = t.level b
      ∧ if d.rotation = true then (d.ring (t.level a)).idxOf a < (d.ring (t.level a)).idxOf b
        else d.requests.idxOf a < d.requests.idxOf b

/-- The request order of one destination holds the keys of both lists, each once; each ring holds every
defined key of its level, once; and the waiting list stands in the waiting order (R134, R141). -/
def Talk.destInOrder (t : Talk) (id : Nat) (d : Dest) : Prop :=
  d.requests.Nodup ∧ (∀ k, k ∈ d.requests ↔ k ∈ d.talking ∨ k ∈ d.waiting)
    ∧ (∀ l, (d.ring l).Nodup
      ∧ ∀ k, k ∈ d.ring l ↔ ∃ x, t.key k = some x ∧ x.dest = id ∧ x.level = l)
    ∧ d.waiting.Pairwise (t.waitsBefore d)

/-- The request orders, rings and waiting lists stand as R134 and R141 have them, and a defined key has one of
the eight levels and a defined destination. -/
def Talk.inOrder (t : Talk) : Prop :=
  (∀ id d, t.dest id = some d → t.destInOrder id d)
    ∧ ∀ k x, t.key k = some x → x.level ≤ 7 ∧ (t.dest x.dest).isSome = true

/-- A destination's standing is the one computed for it, its talkers are eligible, and a free place leaves
no eligible key waiting. -/
def State.destStands (s : State) (id : Nat) (d : Dest) : Prop :=
  d.routed = s.routed id d ∧ d.restricted = s.restricted d
    ∧ (∀ k, k ∈ d.talking → s.talk.eligible d k = true)
    ∧ (d.talking.length < d.limit → ∀ k, k ∈ d.waiting → s.talk.eligible d k = false)

/-- The lists are sound, FREE records hold their FREE values, and every destination stands as computed. -/
def State.stands (s : State) : Prop :=
  s.talk.sound ∧ (∀ h, (s.link h).state = .free → s.link h = Link.free)
    ∧ ∀ id d, s.talk.dest id = some d → s.destStands id d

/-! ### The Frame Plan (R157, R161) -/

/-- The pack entries stand in ascending handle order, one to a handle (R157). -/
def Plan.ordered (p : Plan) : Prop := p.packs.Pairwise fun e f => e.handle < f.handle

/-- No slot below `n` names a destination that is undefined or no GROUP (offence 1). -/
def State.slotsNameGroups (s : State) (p : Plan) (n : Nat) : Prop :=
  ∀ i d, i < n → p.down.get i none = some d → ∃ e, s.talk.dest d = some e ∧ e.kind = .group

/-- No two slots below `n` name one destination (offence 2). -/
def Plan.slotsDiffer (p : Plan) (n : Nat) : Prop :=
  ∀ i j d, i < j → j < n → p.down.get i none = some d → p.down.get j none ≠ some d

/-- Every pack entry of a handle below `n` names a BELTPACK link (offence 3). -/
def State.packsAreBeltpacks (s : State) (p : Plan) (n : Nat) : Prop :=
  ∀ e, e ∈ p.packs → e.handle < n →
    (s.link e.handle).state ≠ .free ∧ (s.link e.handle).kind = some .beltpack

/-- Every pack entry of a handle below `n` names a link in a plan-eligible state (offence 4). -/
def State.packsAreEligible (s : State) (p : Plan) (n : Nat) : Prop :=
  ∀ e, e ∈ p.packs → e.handle < n → (s.link e.handle).state.planEligible = true

/-- No two pack entries of handles below `n` hold one upstream slot (offence 5). -/
def Plan.upsDiffer (p : Plan) (n : Nat) : Prop :=
  ∀ e f, e ∈ p.packs → f ∈ p.packs → e.handle < f.handle → f.handle < n → e.up = none ∨ e.up ≠ f.up

/-- An offence stands in a plan, with what it names, and is the first of R161's order: no earlier kind of
offence stands in the plan, and none of its own kind at a lower slot or handle. -/
def State.offends (s : State) (p : Plan) : Offence → Prop
  | .destKind slot d =>
    s.slotsNameGroups p slot ∧ p.down.get slot none = some d
      ∧ ∀ e, s.talk.dest d = some e → e.kind ≠ .group
  | .destRepeated lower slot d =>
    (∀ n, s.slotsNameGroups p n) ∧ p.slotsDiffer slot
      ∧ lower < slot ∧ p.down.get lower none = some d ∧ p.down.get slot none = some d
  | .packKind h =>
    (∀ n, s.slotsNameGroups p n ∧ p.slotsDiffer n) ∧ s.packsAreBeltpacks p h
      ∧ (∃ e, e ∈ p.packs ∧ e.handle = h)
      ∧ ((s.link h).state = .free ∨ (s.link h).kind ≠ some .beltpack)
  | .packState h st =>
    (∀ n, s.slotsNameGroups p n ∧ p.slotsDiffer n ∧ s.packsAreBeltpacks p n) ∧ s.packsAreEligible p h
      ∧ (∃ e, e ∈ p.packs ∧ e.handle = h) ∧ (s.link h).state = st ∧ st.planEligible = false
  | .upShared u lower h =>
    (∀ n, s.slotsNameGroups p n ∧ p.slotsDiffer n ∧ s.packsAreBeltpacks p n ∧ s.packsAreEligible p n)
      ∧ p.upsDiffer h ∧ lower < h
      ∧ ∃ e f, e ∈ p.packs ∧ f ∈ p.packs ∧ e.handle = lower ∧ f.handle = h ∧ e.up = some u ∧ f.up = some u

/-- Both plans are in order, the Active Plan has no offence, and a plan that waits for a frame mark has
none. -/
def State.plansSound (s : State) : Prop :=
  s.plans.pending.ordered ∧ s.plans.active.ordered
    ∧ s.offence s.plans.active = none ∧ (s.plans.state = .commitWait → s.offence s.plans.pending = none)

/-! ### The occupied set (R64) -/

/-- Two carriers of different links that share a zone are apart (R64, property 1). -/
def Profile.apart (p : Profile) (a b : Party) : Prop :=
  linksDiffer [a, b] = true → shareZone [a, b] = true →
    (a.half : Int) + b.half + p.gcc ≤ ((a.step : Int) - b.step).natAbs

/-- A product of contributing carriers of distinct links that share a zone with a victim of yet another link
stands clear of it (R64, property 2). -/
def productClear (guard : Nat) (cs : List (Int × Party)) (v : Party) : Prop :=
  linksDiffer (cs.map (·.2) ++ [v]) = true → shareZone (cs.map (·.2) ++ [v]) = true →
    (∀ x, x ∈ cs → x.2.contributes = true) →
    (v.half : Int) + productWidth cs + guard ≤ ((v.step : Int) - product cs).natAbs

/-- The candidate's whole interval lies within the span (R48). -/
def Profile.inSpan (p : Profile) (c : Party) : Prop :=
  (p.spanLow : Int) ≤ c.step - c.half ∧ (c.step : Int) + c.half ≤ p.spanHigh

/-- The candidate touches no blocked channel below `n` (R49). -/
def Profile.unblocked (p : Profile) (m : Tab 96 Bool) (c : Party) (n : Nat) : Prop :=
  ∀ k, k < n → m.get k false = true → p.touches c.step c.half k = false

/-- The candidate is clear of every member of the occupied set and of every product it meets or forms, by
tests 3 to 9 (R50 to R52). -/
def Profile.termsClear (p : Profile) (occ : List Party) (c : Party) : Prop :=
  (∀ o, o ∈ occ → p.apart c o)
    ∧ (∀ a b, a ∈ occ → b ∈ occ → productClear p.g3 [(2, a), (-1, b)] c)
    ∧ (∀ a b d, a ∈ occ → b ∈ occ → d ∈ occ → a.key.before b.key = true →
        productClear p.g3 [(1, a), (1, b), (-1, d)] c)
    ∧ (∀ a v, a ∈ occ → v ∈ occ →
        productClear p.g3 [(2, c), (-1, a)] v ∧ productClear p.g3 [(2, a), (-1, c)] v)
    ∧ (∀ a b v, a ∈ occ → b ∈ occ → v ∈ occ → productClear p.g3 [(1, c), (1, a), (-1, b)] v)
    ∧ (∀ a b v, a ∈ occ → b ∈ occ → v ∈ occ → a.key.before b.key = true →
        productClear p.g3 [(1, a), (1, b), (-1, c)] v)
    ∧ (p.im5 = true → ∀ a b, a ∈ occ → b ∈ occ →
        productClear p.g5 [(3, a), (-2, b)] c ∧ productClear p.g5 [(3, c), (-2, a)] b
          ∧ productClear p.g5 [(3, a), (-2, c)] b)

/-- Lists of carrier keys compared place by place (R54). -/
def keysBefore : List TermKey → List TermKey → Bool
  | a :: as, b :: bs => a.before b || (a == b && keysBefore as bs)
  | _, _ => false

/-- The order of terms: by test number, then by the keys of the contributors as written, then by the key of
the victim (R54). -/
def TermRef.before (a b : TermRef) : Bool :=
  decide (a.test.code < b.test.code) || (a.test == b.test && keysBefore a.keys b.keys)

/-- The three forms of product over four carriers, with the guards of Table 3-2. -/
def Profile.imClear (p : Profile) (a b d v : Party) : Prop :=
  productClear p.g3 [(2, a), (-1, b)] v
    ∧ productClear p.g3 [(1, a), (1, b), (-1, d)] v
    ∧ (p.im5 = true → productClear p.g5 [(3, a), (-2, b)] v)

/-- A carrier lies within the span and touches no blocked channel (R64, property 3). -/
def Engine.inBounds (e : Engine) (a : Party) : Prop :=
  spanFault e.prof a = none ∧ firstBlocked e.prof e.blocked a.step a.half = none

/-- The three properties R64 gives the occupied set. -/
def State.protectedSet (s : State) : Prop :=
  (∀ a b, a ∈ s.occupied → b ∈ s.occupied → s.engine.prof.apart a b)
    ∧ (∀ a b d v, a ∈ s.occupied → b ∈ s.occupied → d ∈ s.occupied → v ∈ s.occupied →
        s.engine.prof.imClear a b d v)
    ∧ (∀ a, a ∈ s.occupied → s.engine.inBounds a)

/-- Two carriers alike in all but the key they are held under. -/
def Party.alike (a b : Party) : Prop :=
  a.link = b.link ∧ a.step = b.step ∧ a.half = b.half ∧ a.contributes = b.contributes ∧ a.zones = b.zones

/-- A job that is not void is the one its link waits for: CHECKING or RECHECK, with the class and, but for
a MOVE, the zones of the record; a MOVE's candidate is the link's carrier (R39, R59). -/
def State.jobFits (s : State) (j : Job) : Prop :=
  j.handle < 160 ∧ (s.link j.handle).cls.getD 0 = j.cls
    ∧ ((s.link j.handle).state = .checking ∧ j.zones = (s.link j.handle).zones
      ∨ (s.link j.handle).state = .recheck
        ∧ (if (s.link j.handle).job = some .move then
            j.step.isSome = true ∧ ∀ f, (s.link j.handle).carrier = some f → j.step = some f
          else j.zones = (s.link j.handle).zones))

/-- What a running job holds: it is the head of the queue, on trial where it is a pool job; and every
carrier now held was held when it started. -/
def State.runFits (s : State) (occ : List Party) (trial : Option Nat) : Prop :=
  (∃ j, s.engine.queue.head? = some j ∧ (trial.isSome = true → j.step = none))
    ∧ (∀ b, b ∈ occ → ∃ h o, b.key = .held h o ∧ b.link = some h)
    ∧ ∀ a, a ∈ s.occupied → ∃ b, b ∈ occ ∧ a.alike b

/-- What keeps R64: an UNCONFIGURED part holds nothing; jobs that are not void fit their links, one for a
link; an ACTIVE or REFERRED link names no target; and the running job fits. -/
def State.coordinated (s : State) : Prop :=
  s.protectedSet
    ∧ (s.configured = false → s.occupied = [] ∧ s.engine.queue = [])
    ∧ (∀ j, j ∈ s.engine.queue → j.void = false → s.jobFits j)
    ∧ ((s.engine.queue.filter fun j => !j.void).map (·.handle)).Nodup
    ∧ (∀ h, (s.link h).state = .active ∨ (s.link h).state = .referred → (s.link h).target = none)
    ∧ (∀ occ trial failures, s.engine.work = .job occ trial failures → s.runFits occ trial)

end Sys2Proof.Machine
end

