-- ==== Sys2Proof/Certificates/Slice0/Obligations.lean ====
section
/-! DEFINITION. The statements for the provers. The words they are made of stand in Sys2Proof/Safety.lean. -/

open Sys2Proof Sys2Proof.Machine

/-! ### The step, the reset and the pins -/

/-- A step takes the command at the front of the queue. -/
def Obligations.StepTakesFront : Prop :=
  ∀ (c : Instr) (rest : List Instr) (s : State),
    step { s with pending := c :: rest } = exec c { s with pending := rest }

/-- The model's choice (log entry 1): with no command waiting the timebase ticks, and stands under reset. -/
def Obligations.IdleStepTicks : Prop :=
  ∀ s : State, s.pending = [] →
    (s.pins.inReset = false → step s = .next { s with now := s.now + 1 })
      ∧ (s.pins.inReset = true → step s = .next s)

/-- What a hardware reset leaves: no profile, FREE records, an empty queue, pool and map, no tables, no
owed message (R2, R18, R40, R91, R110, R131, R134, R157, R158, R168, R176, R191). -/
def Obligations.ResetLeavesResetValues : Prop :=
  State.reset.configured = false
    ∧ (∀ h, State.reset.link h = Link.free)
    ∧ (∀ k, State.reset.engine.blocked.get k false = false)
    ∧ State.reset.engine.queue = [] ∧ State.reset.engine.work = .idle
    ∧ (∀ i, State.reset.pool.slots.get i none = none)
    ∧ State.reset.pool.threshold = 0 ∧ State.reset.pool.armed = true
    ∧ State.reset.pool.sweepWanted = false
    ∧ State.reset.tally = ⟨none, Src.absent, Src.absent, Src.absent⟩
    ∧ (∀ k, State.reset.talk.key k = none) ∧ (∀ id, State.reset.talk.dest id = none)
    ∧ (∀ id, State.reset.mtx.owed.get id false = false)
    ∧ State.reset.plans = ⟨Plan.empty, Plan.empty, .idle, 0⟩
    ∧ State.reset.radio.planOwed = false ∧ State.reset.radio.scan = 159
    ∧ State.reset.radio.sending = none ∧ State.reset.mtx.scan = 31 ∧ State.reset.mtx.sending = none
    ∧ State.reset.port = ⟨[], .none, 0, none, none, [], false, false⟩
    ∧ State.reset.port.ready = true ∧ State.reset.port.attention = false

/-- What every step keeps holds right after a reset: nothing left that could begin, the bounds of the queues,
distinct spares, destinations standing as computed, request orders, rings and waiting lists in order, plans
without offence, and the properties of R64. -/
def Obligations.ResetMeetsInvariants : Prop :=
  State.reset.settled ∧ State.reset.bounded ∧ State.reset.portSound ∧ State.reset.pool.distinct
    ∧ State.reset.stands ∧ State.reset.talk.inOrder ∧ State.reset.plansSound ∧ State.reset.coordinated

/-- RESET# low gives every piece of state its reset value and the outputs of Table 11-7; its rising edge
ends the reset, and a transaction under way at that edge is ignored to its end; SDO is high-impedance while
RESET# is low, and after it while no transaction is under way (R180, R194). The model's choices: which
commands have no effect while RESET# is low, all but those of the RESET# and CTS pins (log entry 13), and that
the CTS level, which its pin still moves, and the waiting commands outlast the reset (log entries 1, 3, 13). -/
def Obligations.ResetPinActs : Prop :=
  (∀ s : State, ∃ t, exec .hardwareReset s = .next t
    ∧ t.pins = ⟨true, false⟩ ∧ t.links = Tab.fill 160 Link.free
    ∧ t.engine = State.reset.engine ∧ t.pool = State.reset.pool ∧ t.tally = State.reset.tally
    ∧ t.talk = State.reset.talk ∧ t.plans = State.reset.plans ∧ t.mtx = State.reset.mtx
    ∧ t.port = State.reset.port ∧ t.lines = State.reset.lines
    ∧ t.radio = { State.reset.radio with cts := s.radio.cts } ∧ t.pending = s.pending
    ∧ t.configured = false ∧ t.port.ready = true ∧ t.port.attention = false
    ∧ t.radio.lineIdle = true ∧ t.mtx.lineIdle = true ∧ (∀ n, t.sdo n = .highZ)
    ∧ ∀ u, exec (.resetRisingEdge false) t = .next u → ∀ n, u.sdo n = .highZ)
  ∧ (∀ (s : State) (selLow : Bool), s.pins.inReset = true →
      exec (.resetRisingEdge selLow) s = .next { s with pins := ⟨false, selLow⟩ })
  ∧ (∀ (s : State) (c : Instr) (n : Nat) (ok : Bool), s.pins = ⟨false, true⟩ → c.request = some (n, ok) →
      exec c s = .next { s with pins := ⟨false, false⟩ })
  ∧ ((∀ (c : Instr) (s : State), s.pins.inReset = true → c.onPin = false → exec c s = .next s)
    ∧ (∀ s : State, s.pins.inReset = true →
        exec .ctsAsserted s = .next { s with radio := { s.radio with cts := true } }))

/-! ### Requests at the Control Port -/

/-- An UNCONFIGURED part answers every request but LOAD PROFILE, READ SUMMARY and one with an unknown code
NOT_CONFIGURED, and nothing else changes; it discards tally frames, reports, panel events and frame marks,
and messages of types a line does not receive: the receiver of the line the message came on is empty, and
nothing else changes (R8, R9, R181). -/
def Obligations.UnconfiguredTurnsAway : Prop :=
  (∀ (c : Instr) (n : Nat) (ok : Bool) (s : State), c.request = some (n, ok) → n ≠ 1 → n ≠ 48 →
    (∀ m, c ≠ .unrecognisedRequest m) → s.free → s.configured = false →
    exec c s = .next (s.respond n .notConfigured .empty))
  ∧ (∀ s : State, s.pins.inReset = false → s.configured = false →
    (∀ (a : LineBody HandleStep) (h : LineBody Nat) (v : LineBody InterferenceArgs)
        (k : LineBody PackKeyArgs) (n : Nat) (c : Instr),
      c ∈ [Instr.tuned a, .muted h, .interference v, .carrierLoss h, .carrierBack h, .key k,
        .radioUnknownReportType n] →
      exec c s = .next { s with radio := { s.radio with received := [] } })
    ∧ (∀ (b : LineBody PanelArgs) (n : Nat) (c : Instr),
      c ∈ [Instr.press b, .release b, .matrixUnknownEventType n] →
      exec c s = .next { s with mtx := { s.mtx with received := [] } })
    ∧ (∀ (b : LineBody FrameArgs) (n : Nat),
      (∀ c, c ∈ [Instr.tallyFrame .main b, .tallyUnknownMessageType .main n] →
        exec c s = .next { s with lines := { s.lines with line0 := [] } })
      ∧ (∀ c, c ∈ [Instr.tallyFrame .sub1 b, .tallyUnknownMessageType .sub1 n] →
        exec c s = .next { s with lines := { s.lines with line1 := [] } })
      ∧ (∀ c, c ∈ [Instr.tallyFrame .sub2 b, .tallyUnknownMessageType .sub2 n] →
        exec c s = .next { s with lines := { s.lines with line2 := [] } }))
    ∧ exec .frameMark s = .next s)

/-- How a request is judged before any block sees it: discarded with port-error while a response is owed;
UNKNOWN_REQUEST for an unknown code; BAD_ARGUMENT marking the length for a wrong length; and a badly framed
transaction sets port-error alone (R180, R181). -/
def Obligations.RequestsAreScreened : Prop :=
  (∀ (c : Instr) (n : Nat) (ok : Bool) (s : State), c.request = some (n, ok) → s.listening →
      s.port.owed.isSome = true →
      exec c s = .next { s with port := { s.port.ended with portError := true } })
  ∧ (∀ (n : Nat) (s : State), s.free →
      exec (.unrecognisedRequest n) s = .next (s.respond n .unknownRequest .empty))
  ∧ (∀ (c : Instr) (n : Nat) (s : State), c.request = some (n, false) → s.free →
      s.configured = true ∨ n = 1 ∨ n = 48 →
      exec c s = .next (s.respond n .badArgument .lengthField))
  ∧ (∀ (bytes : List Byte) (bits : Nat) (s : State), s.listening →
      exec (.framingError bytes bits) s = .next { s with port := { s.port.ended with portError := true } })

/-- Every taken request makes exactly one response owed, with its own code, READY low and ATTN# asserted
(R181, R182, R185). -/
def Obligations.EveryTakenRequestAnswers : Prop :=
  ∀ (c : Instr) (n : Nat) (ok : Bool) (s : State), c.request = some (n, ok) → s.free →
    ∃ t st body, exec c s = .next t ∧ t.port.owed = some ⟨n, st, body⟩
      ∧ t.port.ready = false ∧ t.port.attention = true ∧ t.port.buffer = []

/-- A request answered with anything but OK or QUEUED changes nothing beside its answer (R29 and the rules
of every request). -/
def Obligations.RefusalChangesNothing : Prop :=
  ∀ (c : Instr) (n : Nat) (ok : Bool) (s t : State) (st : Status) (body : RespBody),
    c.request = some (n, ok) → s.free → exec c s = .next t → t.port.owed = some ⟨n, st, body⟩ →
    st ≠ .ok → st ≠ .queued → t = s.respond n st body

/-- A collect chooses the owed response, else the oldest notice, else EMPTY; at its end an item clocked out
whole is consumed, and one that was not stays where it was, with port-error set. SDO carries the item's bytes
and the idle value beyond them, and is high-impedance once SEL# is high (R183, R184, R192). -/
def Obligations.CollectsPresentAndConsume : Prop :=
  (∀ s : State, s.pins.inReset = false → s.pins.selHeld = false → s.port.transaction ≠ .collect →
    ∃ i t, exec .collect s = .next t ∧ t = { s with port := { s.port with
          transaction := .collect, byteCount := 1, presented := some i } }
      ∧ (∀ n, t.sdo n = .driven (i.bytes.getD n 255))
      ∧ (∀ r, s.port.owed = some r → i = .response r)
      ∧ (∀ n rest, s.port.owed = none → s.port.notices = n :: rest → i = .notice n)
      ∧ (s.port.owed = none → s.port.notices = [] → i = .empty))
  ∧ (∀ (s : State) (i : Item) (clocked : Nat), s.pins.inReset = false → s.pins.selHeld = false →
      s.port.presented = some i →
      (2 + i.contents.length ≤ clocked →
        exec (.collectEnd clocked) s = .next { s with port := { s.port.ended with
          presented := none
          owed := (match i with | .response _ => none | _ => s.port.owed)
          notices := (match i with | .notice _ => s.port.notices.tail | _ => s.port.notices) } })
      ∧ (clocked < 2 + i.contents.length →
        exec (.collectEnd clocked) s = .next { s with port := { s.port.ended with
          presented := none, portError := true } })
      ∧ ∀ t, exec (.collectEnd clocked) s = .next t → ∀ n, t.sdo n = .highZ)

/-- READ SUMMARY reports the part and the two flags as they stood, and clears both; the ten link counts of a
CONFIGURED part add up to 160 (R190). -/
def Obligations.ReadSummaryReports : Prop :=
  ∀ s : State, s.free → ∃ r, exec (.readSummary (.args ())) s = .next { s with port := { s.port.ended with
        owed := some ⟨48, .ok, .summary r⟩, portError := false, noticesLost := false } }
    ∧ r.portError = s.port.portError ∧ r.noticesLost = s.port.noticesLost ∧ r.cts = s.radio.cts
    ∧ r.configured = s.configured
    ∧ (s.configured = true → r.carriers = s.occupied.length ∧ r.links.length = 10 ∧ r.links.sum = 160
        ∧ (∀ st : LinkState, r.links[st.code]? = some (s.links.rows.countP fun l => l.state == st))
        ∧ r.queueDepth = s.engine.queue.length
        ∧ r.clearSpares = s.pool.slots.rows.countP (fun x => x.any fun sp => sp.status == .clear)
        ∧ r.otherSpares = s.pool.slots.rows.countP (fun x => x.any fun sp => sp.status != .clear)
        ∧ r.clearSpares + r.otherSpares = s.pool.spares.length
        ∧ r.noticeDepth = s.port.notices.length
        ∧ r.sources = [s.tally.src0.state, s.tally.src1.state, s.tally.src2.state]
        ∧ r.planState = s.plans.state ∧ r.planOwed = s.radio.planOwed)
    ∧ (s.configured = false → r.carriers = 0 ∧ r.links = [160, 0, 0, 0, 0, 0, 0, 0, 0, 0]
        ∧ r.queueDepth = 0 ∧ r.clearSpares = 0 ∧ r.otherSpares = 0 ∧ r.noticeDepth = 0
        ∧ r.sources = [.absent, .absent, .absent] ∧ r.planState = .idle ∧ r.planOwed = false)

/-! ### Chapter 1: the profile and the blocked channels -/

/-- An accepted LOAD PROFILE replaces the profile, empties the map and the pool, puts the threshold to 0 and
armed, clears sweep-wanted and makes the part CONFIGURED; every other structure is as it was (R6). -/
def Obligations.LoadProfileInstalls : Prop :=
  ∀ (a : ProfileArgs) (s : State), s.free → profileBadField a = none →
    s.configured = false
      ∨ (s.occupied = [] ∧ (∀ h, h < 160 → (s.link h).state ≠ .checking) ∧ s.engine.queue = []) →
    ∃ t, exec (.loadProfile (.args a)) s = .next t ∧ t.configured = true
      ∧ t.engine = { s.engine with profile := some (profileStored a), blocked := Tab.fill 96 false }
      ∧ (∀ i, t.pool.slots.get i none = none) ∧ t.pool.threshold = 0 ∧ t.pool.armed = true
      ∧ t.pool.sweepWanted = false
      ∧ s.answeredOnly t 1 .ok (.profile (profileStored a))
      ∧ t.links = s.links ∧ t.talk = s.talk ∧ t.plans = s.plans ∧ t.radio = s.radio ∧ t.mtx = s.mtx
      ∧ s.sameOutside t

/-- A profile that breaks no rule is stored field by field as sent, its guards and settle code cut at their
limits and its window brought into 2 to 60 s, so that every field lies in its range of Table 1-2; from them the
settle allowance is 50 ms for each of the settle code and one more, and the window is in seconds (R3, R4). -/
def Obligations.StoredProfileInRange : Prop :=
  ∀ a : ProfileArgs, profileBadField a = none →
    (profileStored a).spanLow = a.spanLow ∧ (profileStored a).spanHigh = a.spanHigh
      ∧ (profileStored a).origin = a.origin ∧ (profileStored a).widthCode = a.widthCode
      ∧ (profileStored a).gcc = min a.gcc 400 ∧ (profileStored a).g3 = min a.g3 200
      ∧ (profileStored a).g5 = min a.g5 200 ∧ (profileStored a).im5 = (a.im5 != 0)
      ∧ (profileStored a).settle = min a.settle 7 ∧ (profileStored a).window = max 2 (min a.window 60)
      ∧ (profileStored a).allowance = 50 * (min a.settle 7 + 1)
      ∧ (profileStored a).windowMs = 1000 * max 2 (min a.window 60)
      ∧ (∀ c x, a.classes.rows[c]? = some x →
          (profileStored a).cls c = ⟨x.halfWidth, x.contributes != 0⟩)
      ∧ (profileStored a).spanLow < (profileStored a).spanHigh ∧ (profileStored a).spanHigh ≤ 108000
      ∧ (profileStored a).origin ≤ 108000
      ∧ (profileStored a).width = 200 * (profileStored a).widthCode
      ∧ 6 ≤ (profileStored a).widthCode ∧ (profileStored a).widthCode ≤ 8
      ∧ (profileStored a).gcc ≤ 400 ∧ (profileStored a).g3 ≤ 200 ∧ (profileStored a).g5 ≤ 200
      ∧ 50 ≤ (profileStored a).allowance ∧ (profileStored a).allowance ≤ 400
      ∧ 2000 ≤ (profileStored a).windowMs ∧ (profileStored a).windowMs ≤ 60000
      ∧ ∀ c, c < 8 → 1 ≤ ((profileStored a).cls c).halfWidth ∧ ((profileStored a).cls c).halfWidth ≤ 1000

/-- BLOCK marks a channel that no occupied carrier touches and spoils the spares that touch it; the low-pool
evaluation is made where that changes the number of CLEAR spares, and POOL_LOW follows only where the number
left is at or below the threshold and the alert armed. BLOCK is refused CONFLICT, naming the carrier, where
one touches the channel. UNBLOCK clears a blocked channel and leaves every spare's status; it sets
sweep-wanted, which an IDLE engine acts on at once: it runs a unit for the lowest spare that is not CLEAR, or
the pass is finished; an engine at work goes on (R15, R16, R43, R61, R96, R97, R101). -/
def Obligations.BlockAndUnblockChannels : Prop :=
  (∀ (k : Nat) (s : State), s.accepts → k ≤ 95 → s.engine.blocked.get k false = false →
    (∀ c, c ∈ s.occupied → s.engine.prof.touches c.step c.half k = false) →
    ∃ t, exec (.block (.args k)) s = .next t ∧ t.port.owed = some ⟨3, .ok, .empty⟩
      ∧ t.engine = { s.engine with blocked := s.engine.blocked.set k true }
      ∧ (∀ i, t.pool.slots.get i none = (s.pool.slots.get i none).map fun sp =>
          if sp.status ≠ .spoiled
              ∧ s.engine.prof.touches sp.step (s.engine.prof.cls sp.cls).halfWidth k = true
            then { sp with status := .spoiled, margin := none } else sp)
      ∧ t.pool.sweepWanted = s.pool.sweepWanted ∧ t.pool.sweepPos = s.pool.sweepPos
      ∧ s.lowPoolJudged t { s.port.ended with owed := some ⟨3, .ok, .empty⟩ }
      ∧ t.links = s.links ∧ t.talk = s.talk ∧ t.plans = s.plans ∧ t.radio = s.radio ∧ t.mtx = s.mtx
      ∧ s.sameOutside t)
  ∧ (∀ (k h o : Nat) (c : Party) (s : State), s.accepts → k ≤ 95 → s.engine.blocked.get k false = false →
      s.occupied.find? (fun c => s.engine.prof.touches c.step c.half k) = some c → c.key = .held h o →
      exec (.block (.args k)) s = .next (s.respond 3 .conflict (.carrierAt h o c.step)))
  ∧ (∀ (k : Nat) (s : State), s.accepts → k ≤ 95 → s.engine.blocked.get k false = true → s.quiet →
      ∃ t, exec (.unblock (.args k)) s = .next t ∧ s.answeredOnly t 4 .ok .empty
        ∧ t.engine.blocked = s.engine.blocked.set k false
        ∧ t.engine.profile = s.engine.profile ∧ t.engine.queue = s.engine.queue
        ∧ s.sweepAsked s.pool t
        ∧ (∀ i, (t.pool.slots.get i none).map (·.status) = (s.pool.slots.get i none).map (·.status))
        ∧ (∀ h, (t.link h).lasting = (s.link h).lasting)
        ∧ t.talk = s.talk ∧ t.plans = s.plans ∧ s.sameOutside t)
  ∧ (∀ (k : Nat) (s : State), s.accepts → k ≤ 95 →
      (s.engine.blocked.get k false = true →
        exec (.block (.args k)) s = .next (s.respond 3 .ok .empty))
      ∧ (s.engine.blocked.get k false = false →
        exec (.unblock (.args k)) s = .next (s.respond 4 .ok .empty)))

/-! ### Lookups -/

/-- A lookup changes nothing but the owed answer, whatever its arguments (R7, R34 to R38, R94, R130, R155,
R156, R167). -/
def Obligations.LookupsOnlyAnswer : Prop :=
  ∀ (c : Instr) (n : Nat) (ok : Bool) (s : State), c.lookup = true → c.request = some (n, ok) → s.free →
    ∃ st body, exec c s = .next (s.respond n st body)

/-- What the table reads answer: the profile with the blocked channels in ascending order; a link's record;
the pool with its counts, which add up to 32, and the first 16 spares from the start slot in slot order; the
tally; a destination and a key, defined or not, with the places and the times remaining; and a plan with the
first 16 pack entries from the start handle; each page with where to go on (R7, R34, R94, R130, R155, R156,
R167). -/
def Obligations.TableReadsAnswer : Prop :=
  ∀ s : State, s.accepts →
    (exec (.readProfile (.args ())) s
        = .next (s.respond 2 .ok (.profileMap s.engine.prof (blockedList s.engine.blocked)))
      ∧ (blockedList s.engine.blocked).Pairwise (· < ·)
      ∧ ∀ k, k ∈ blockedList s.engine.blocked ↔ k < 96 ∧ s.engine.blocked.get k false = true)
    ∧ (∀ h, h ≤ 159 → exec (.queryLink (.args h)) s = .next (s.respond 5 .ok (.link
        ⟨h, s.link h, (s.link h).heldCarrier.isSome, (s.link h).heldTarget.isSome,
          (s.link h).timer.map fun x => x.deadline - s.now, s.onAir h⟩)))
    ∧ (∀ i, i ≤ 31 → ∃ r, exec (.readPool (.args i)) s = .next (s.respond 21 .ok (.pool r))
        ∧ r.clear = s.pool.slots.rows.countP (fun x => x.any fun sp => sp.status == .clear)
        ∧ r.unchecked = s.pool.slots.rows.countP (fun x => x.any fun sp => sp.status == .unchecked)
        ∧ r.spoiled = s.pool.slots.rows.countP (fun x => x.any fun sp => sp.status == .spoiled)
        ∧ r.free = s.pool.slots.rows.countP (·.isNone)
        ∧ r.clear + r.unchecked + r.spoiled + r.free = 32
        ∧ r.threshold = s.pool.threshold ∧ r.armed = s.pool.armed ∧ r.sweepWanted = s.pool.sweepWanted
        ∧ r.entries.map (·.1) = ((List.range 32).filter fun j =>
            decide (i ≤ j) && (s.pool.slots.get j none).isSome).take 16
        ∧ (∀ j sp, (j, sp) ∈ r.entries → i ≤ j ∧ s.pool.slots.get j none = some sp)
        ∧ (r.entries.length < 16 → r.next = none)
        ∧ (∀ x, r.entries[15]? = some x → r.next = if x.1 < 31 then some (x.1 + 1) else none))
    ∧ exec (.readTally (.args ())) s = .next (s.respond 31 .ok (.tally s.tally.map
        ([s.tally.src0, s.tally.src1, s.tally.src2].map fun v =>
          ⟨v.state, v.deadline.map fun d => d - s.now, v.program, v.preview⟩)))
    ∧ (∀ id, id ≤ 31 → s.talk.dest id = none →
        exec (.queryDest (.args id)) s = .next (s.respond 40 .ok (.dest id none (s.mtx.owed.get id false))))
    ∧ (∀ id d, id ≤ 31 → s.talk.dest id = some d → ∃ r,
        exec (.queryDest (.args id)) s
            = .next (s.respond 40 .ok (.dest id (some r) (s.mtx.owed.get id false)))
          ∧ r.dest = d ∧ r.talking.map (·.1) = d.talking ∧ r.ringSizes = d.rings.rows.map List.length
          ∧ ∀ y, y ∈ r.talking → y.2 = (s.talk.key y.1).bind fun x => x.deadline.map fun z => z - s.now)
    ∧ (∀ k, k ≤ 95 → s.talk.key k = none →
        exec (.queryKey (.args k)) s = .next (s.respond 41 .ok (.key k none)))
    ∧ (∀ k x, k ≤ 95 → s.talk.key k = some x → ∃ r,
        exec (.queryKey (.args k)) s = .next (s.respond 41 .ok (.key k (some r)))
          ∧ r.key = x ∧ (r.remaining = x.deadline.map fun d => d - s.now)
          ∧ ∀ d, s.talk.dest x.dest = some d →
            (k ∉ d.requests → r.requestPlace = none)
            ∧ (k ∈ d.requests → ∃ n, r.requestPlace = some (n + 1) ∧ d.requests[n]? = some k
                ∧ k ∉ d.requests.take n)
            ∧ (k ∈ d.ring x.level → ∃ n, r.ringPlace = n + 1 ∧ (d.ring x.level)[n]? = some k
                ∧ k ∉ (d.ring x.level).take n))
    ∧ (∀ w h, w ≤ 1 → h ≤ 159 → ∃ r, exec (.readPlan (.args ⟨w, h⟩)) s = .next (s.respond 47 .ok (.plan r))
        ∧ r.state = s.plans.state ∧ r.number = s.plans.number
        ∧ r.down = (if w = 0 then s.plans.pending.down else s.plans.active.down)
        ∧ r.total = (if w = 0 then s.plans.pending.packs.length else s.plans.active.packs.length)
        ∧ r.entries = ((if w = 0 then s.plans.pending.packs else s.plans.active.packs).filter
            fun e => decide (h ≤ e.handle)).take 16
        ∧ (r.entries.length < 16 → r.next = none)
        ∧ (∀ e, r.entries[15]? = some e → r.next = if e.handle < 159 then some (e.handle + 1) else none))

/-- FIND LABEL answers with a record that carries the label, NO_LINK where none does, and BAD_ARGUMENT for a
badly formed label (R35). -/
def Obligations.FindLabelAnswers : Prop :=
  ∀ (l : List Nat) (s : State), s.accepts →
    (labelOk l = false → exec (.findLabel (.args l)) s = .next (s.respond 6 .badArgument .empty))
    ∧ (labelOk l = true → (∃ g, g < 160 ∧ (s.link g).state ≠ .free ∧ (s.link g).label = l) →
        ∃ h, h < 160 ∧ (s.link h).state ≠ .free ∧ (s.link h).label = l
          ∧ exec (.findLabel (.args l)) s = .next (s.respond 6 .ok (.handle h)))
    ∧ (labelOk l = true → (∀ g, g < 160 → (s.link g).state = .free ∨ (s.link g).label ≠ l) →
        exec (.findLabel (.args l)) s = .next (s.respond 6 .noLink .empty))

/-- FIND BINDING answers with the link bound to an input, NO_LINK where none is, BAD_ARGUMENT for a source or
input out of range, whatever map is loaded (R37). -/
def Obligations.FindBindingAnswers : Prop :=
  ∀ (x i : Nat) (s : State), s.accepts →
    (2 < x ∨ i = 0 ∨ (x = 0 ∧ 48 < i) ∨ (x ≠ 0 ∧ 24 < i) →
      exec (.findBinding (.args ⟨x, i⟩)) s = .next (s.respond 8 .badArgument .empty))
    ∧ (∀ src, sourceOf x = some src → 1 ≤ i → i ≤ sourceInputs src →
        ((∃ g, g < 160 ∧ ⟨src, i⟩ ∈ (s.link g).bindings) →
          ∃ h, h < 160 ∧ ⟨src, i⟩ ∈ (s.link h).bindings
            ∧ exec (.findBinding (.args ⟨x, i⟩)) s = .next (s.respond 8 .ok (.handle h)))
        ∧ ((∀ g, g < 160 → ⟨src, i⟩ ∉ (s.link g).bindings) →
          exec (.findBinding (.args ⟨x, i⟩)) s = .next (s.respond 8 .noLink .empty)))

/-- FIND FREQUENCY gives the number of links with a held carrier covering the step and the first four;
LIST LINKS gives the first 16 handles in the filter from the start handle and where to go on; each with its
refusal (R36, R38). -/
def Obligations.FindFrequencyAndListLinks : Prop :=
  (∀ (f : Nat) (s : State), s.accepts →
    (108000 < f → exec (.findFrequency (.args f)) s = .next (s.respond 7 .badArgument .empty))
    ∧ (f ≤ 108000 → ∃ l : List Nat, l.Pairwise (· < ·)
      ∧ (∀ h, h ∈ l ↔ h < 160 ∧ ∃ x, x ∈ (s.link h).held
          ∧ ((f : Int) - x.2).natAbs ≤ (s.engine.prof.cls ((s.link h).cls.getD 0)).halfWidth)
      ∧ exec (.findFrequency (.args f)) s = .next (s.respond 7 .ok (.frequency l.length (l.take 4)))))
  ∧ (∀ (m : BitVec 16) (start : Nat) (s : State), s.accepts →
    (m.setWidth 10 = 0 ∨ 159 < start →
      exec (.listLinks (.args ⟨m, start⟩)) s = .next (s.respond 9 .badArgument .empty))
    ∧ (m.setWidth 10 ≠ 0 → start ≤ 159 →
      ∃ (l : List Nat) (next : Option Nat), l.Pairwise (· < ·)
        ∧ (∀ h, h ∈ l ↔ start ≤ h ∧ h < 160 ∧ m.getLsbD (s.link h).state.code = true)
        ∧ exec (.listLinks (.args ⟨m, start⟩)) s = .next (s.respond 9 .ok (.links (l.take 16) next))
        ∧ (l.length < 16 → next = none)
        ∧ (∀ h, l[15]? = some h → h < 159 → next = some (h + 1))
        ∧ (l[15]? = some 159 → next = none)))

/-- The QUERY LINK report is 40 bytes; every line message has a byte sum of 0 modulo 256 and four bytes beside
its body; TUNE, PLAN and ROUTE have the lengths of Table 11-5. A byte on a serial line is a start bit, its
eight bits from the least significant, and a stop bit, and is read back as itself, and so is a message; a byte
on SDI is clocked from the most significant bit (R180, R192, R193, Tables 11-4 and 11-5). -/
def Obligations.MessageLayouts : Prop :=
  (∀ r : LinkReport, r.bytes.length = 40)
    ∧ (∀ (type : Nat) (body : List Byte), (lineMessage type body).foldl (· + ·) 0 = 0
        ∧ (lineMessage type body).length = body.length + 4)
    ∧ (∀ (h f c : Nat), (RackMsg.tune h f c).bytes.length = 9)
    ∧ (∀ (n : BitVec 16) (p : Plan), (RackMsg.plan n p).bytes.length = 19 + 4 * p.packs.length)
    ∧ (∀ r : Route, r.bytes.length = 6 + 4 * r.keys.length)
    ∧ (∀ b : Byte, (serialByte b).length = 10 ∧ (serialByte b)[0]? = some .start
        ∧ (serialByte b)[9]? = some .stop
        ∧ (∀ i, i < 8 → (serialByte b)[i + 1]? = some (.data (b.getLsbD i)))
        ∧ serialByteOf (serialByte b) = some b)
    ∧ (∀ m : List Byte, serialBytesOf (serialBits m) = some m)
    ∧ (∀ (m : List Byte) (rest : List Bool), rest.length < 8 →
        clockedBytes (m.flatMap controlBits ++ rest) = (m, rest.length))

/-! ### Chapter 2: labels and policies -/

/-- SET LABEL: the refusals in their order, the label the record already has, and the new label. SET POLICY
replaces the policy of an occupied link and nothing else, with its refusals (R29, R32, R33). -/
def Obligations.LabelAndPolicy : Prop :=
  (∀ (h : Nat) (l : List Nat) (s : State), s.accepts →
    (159 < h ∨ labelOk l = false →
      exec (.setLabel (.args ⟨h, l⟩)) s = .next (s.respond 10 .badArgument .empty))
    ∧ (h ≤ 159 → labelOk l = true →
      ((s.link h).state = .free → exec (.setLabel (.args ⟨h, l⟩)) s = .next (s.respond 10 .noLink .empty))
      ∧ ((s.link h).state = .checking →
          exec (.setLabel (.args ⟨h, l⟩)) s = .next (s.respond 10 .busy .empty))
      ∧ ((s.link h).state.occupied = true → (s.link h).label = l →
          exec (.setLabel (.args ⟨h, l⟩)) s = .next (s.respond 10 .ok .empty))
      ∧ ((s.link h).state.occupied = true → (s.link h).label ≠ l →
          (∃ g, g < 160 ∧ (s.link g).state ≠ .free ∧ (s.link g).label = l) →
          exec (.setLabel (.args ⟨h, l⟩)) s = .next (s.respond 10 .duplicate .empty))
      ∧ ((s.link h).state.occupied = true → (s.link h).label ≠ l →
          (∀ g, g < 160 → (s.link g).state = .free ∨ (s.link g).label ≠ l) →
          exec (.setLabel (.args ⟨h, l⟩)) s
            = .next (({ s with links := s.links.set h { s.link h with label := l } }).respond
                10 .ok .empty))))
  ∧ (∀ (h p : Nat) (s : State), s.accepts →
    (159 < h ∨ 2 < p → exec (.setPolicy (.args ⟨h, p⟩)) s = .next (s.respond 11 .badArgument .empty))
    ∧ (h ≤ 159 → p ≤ 2 → (s.link h).state = .free →
        exec (.setPolicy (.args ⟨h, p⟩)) s = .next (s.respond 11 .noLink .empty))
    ∧ (h ≤ 159 → p ≤ 2 → (s.link h).state = .checking →
        exec (.setPolicy (.args ⟨h, p⟩)) s = .next (s.respond 11 .busy .empty))
    ∧ (h ≤ 159 → p ≤ 2 → (s.link h).state.occupied = true →
        exec (.setPolicy (.args ⟨h, p⟩)) s
          = .next (({ s with links := s.links.set h { s.link h with policy := policyOf p } }).respond
              11 .ok .empty)))

/-! ### Chapter 4: the life of a link -/

/-- An accepted ADMIT takes the lowest FREE record, writes it, makes it CHECKING and offers its job at the
tail of the Check Queue (R65). -/
def Obligations.AdmitTakesLowestFree : Prop :=
  ∀ (a : AdmitArgs) (h : Nat) (kind : LinkKind) (policy : Policy) (s : State), s.accepts →
    linkKindOf a.kind = some kind → a.cls ≤ 7 → a.zones ≠ 0 → labelOk a.label = true →
    policyOf a.policy = some policy → a.step ≤ 108000 ∨ a.step = 16777215 →
    (∀ g, g < 160 → (s.link g).state = .free ∨ (s.link g).label ≠ a.label) →
    h < 160 → (s.link h).state = .free → (∀ g, g < h → (s.link g).state ≠ .free) →
    s.engine.queue.length < 12 →
    (∃ t, exec (.admitLink (.args a)) s = .next t ∧ t.port.owed = some ⟨12, .queued, .handle h⟩)
    ∧ ∀ j : Job, j = ⟨if a.step = 16777215 then .admissionPool else .admission, h,
          if a.step = 16777215 then none else some a.step, a.cls, a.zones, false, false⟩ →
        s.startsOrWaits j →
        ∃ t, exec (.admitLink (.args a)) s = .next t
          ∧ s.linkBecomes t h { Link.free with
              state := .checking, kind := some kind, cls := some a.cls, zones := a.zones,
              label := a.label, policy := some policy, job := some j.kind }
          ∧ t.engine.queue = s.engine.queue ++ [j] ∧ s.otherLinks t h
          ∧ s.answeredOnly t 12 .queued (.handle h) ∧ t.talk = s.talk ∧ s.sameVenue t ∧ s.sameOutside t

/-- RETUNE, ANSWER REFERRAL and MOVE ZONES make the link RECHECK, close a referral, and offer a job with the
class of the record and its zones, or the new zones with its own carrier for MOVE (R69, R72, R107). -/
def Obligations.RetuneFamilyOffersJobs : Prop :=
  ∀ (h : Nat) (s : State), s.accepts → h ≤ 159 → s.engine.queue.length < 12 →
    (∀ (f force : Nat) (j : Job), (s.link h).state = .active ∨ (s.link h).state = .referred →
      f ≤ 108000 ∨ f = 16777215 →
      j = ⟨if f = 16777215 then .retunePool else .retune, h, if f = 16777215 then none else some f,
            (s.link h).cls.getD 0, (s.link h).zones, force != 0, false⟩ →
      s.startsOrWaits j →
      ∃ t, exec (.retune (.args ⟨h, f, force⟩)) s = .next t
        ∧ s.linkBecomes t h { s.link h with
            state := .recheck, job := some j.kind, target := j.step,
            forced := (s.link h).forced || force != 0, timer := none }
        ∧ t.engine.queue = s.engine.queue ++ [j] ∧ s.otherLinks t h
        ∧ s.answeredOnly t 13 .queued .empty ∧ t.talk = s.talk ∧ s.sameVenue t ∧ s.sameOutside t)
    ∧ (∀ (f : Nat) (j : Job), (s.link h).state = .referred → f ≤ 108000 →
        j = ⟨.retune, h, some f, (s.link h).cls.getD 0, (s.link h).zones, false, false⟩ →
        s.startsOrWaits j →
        ∃ t, exec (.answerReferral (.args ⟨h, f⟩)) s = .next t
          ∧ s.linkBecomes t h { s.link h with
              state := .recheck, job := some .retune, target := some f, timer := none }
          ∧ t.engine.queue = s.engine.queue ++ [j] ∧ s.otherLinks t h
          ∧ s.answeredOnly t 23 .queued .empty ∧ t.talk = s.talk ∧ s.sameVenue t ∧ s.sameOutside t)
    ∧ (∀ (z : ZoneSet) (j : Job), (s.link h).state = .active → z ≠ 0 →
        j = ⟨.move, h, some ((s.link h).carrier.getD 0), (s.link h).cls.getD 0, z, false, false⟩ →
        s.startsOrWaits j →
        ∃ t, exec (.moveZones (.args ⟨h, z⟩)) s = .next t
          ∧ s.linkBecomes t h { s.link h with state := .recheck, job := some .move }
          ∧ t.engine.queue = s.engine.queue ++ [j] ∧ s.otherLinks t h
          ∧ s.answeredOnly t 14 .queued .empty ∧ t.talk = s.talk ∧ s.sameVenue t ∧ s.sameOutside t)

/-- A pool job that starts with no matching spare completes at once with NO_SPARE and 0 trials: an ADMIT
frees its record and a RETUNE leaves its link ACTIVE, each with a CHECK_RESULT (R60, R67, R71). That it does
so in the event that offers the job is the model's choice (log entry 11). -/
def Obligations.PoolJobWithoutSpare : Prop :=
  ∀ (h : Nat) (s : State), s.accepts → h ≤ 159 → s.engine.work = .idle → s.engine.queue = [] →
    (∀ a : AdmitArgs, admitArgsOk a = true → a.step = 16777215 →
      (∀ g, g < 160 → (s.link g).state = .free ∨ (s.link g).label ≠ a.label) →
      (s.link h).state = .free → (∀ g, g < h → (s.link g).state ≠ .free) →
      s.pool.pick ⟨.admissionPool, h, none, a.cls, a.zones, false, false⟩ = none →
      ∃ t, exec (.admitLink (.args a)) s = .next t
        ∧ (t.link h).lasting = Link.free.lasting ∧ s.otherLinks t h ∧ t.engine.queue = []
        ∧ t.port.owed = some ⟨12, .queued, .handle h⟩
        ∧ t.port.notices
            = (s.port.queue (.checkResult .admissionPool h false (.noSpare 0) .free)).notices)
    ∧ (∀ force : Nat, (s.link h).state = .active ∨ (s.link h).state = .referred →
        s.pool.pick ⟨.retunePool, h, none, (s.link h).cls.getD 0, (s.link h).zones, force != 0, false⟩
          = none →
        ∃ t, exec (.retune (.args ⟨h, 16777215, force⟩)) s = .next t
          ∧ s.linkBecomes t h { s.link h with
              state := .active, target := none, job := none, forced := false, timer := none }
          ∧ s.otherLinks t h ∧ t.engine.queue = []
          ∧ t.port.owed = some ⟨13, .queued, .empty⟩
          ∧ t.port.notices
              = (s.port.queue (.checkResult .retunePool h (force != 0) (.noSpare 0) .active)).notices)

/-- CANCEL RETUNE returns a RETUNE_WAIT link to ACTIVE on its carrier, and sweep-wanted, which it sets, is
acted on at once by an IDLE engine; TUNE NOW makes it SETTLING, forced, with TUNE (target) owed. SETTLING and
REVERTING refuse both TOO_LATE, every other state BUSY (R75, R76, R96). -/
def Obligations.CancelAndTuneNow : Prop :=
  ∀ (h : Nat) (s : State), s.accepts → h ≤ 159 →
    ((s.link h).state = .retuneWait → s.quiet →
      (∃ t, exec (.cancelRetune (.args h)) s = .next t
        ∧ s.linkBecomes t h { s.link h with state := .active, target := none, forced := false }
        ∧ s.sweepAsked s.pool t
        ∧ t.engine.queue = s.engine.queue ∧ s.otherLinks t h ∧ s.answeredOnly t 15 .ok .empty
        ∧ t.talk = s.talk ∧ s.sameVenue t ∧ s.sameOutside t)
      ∧ (∃ t, exec (.tuneNow (.args h)) s = .next t
        ∧ s.linkBecomes t h { s.link h with
            state := .settling, forced := true, order := (s.link h).target.map .tune, timer := none }
        ∧ t.engine.queue = s.engine.queue ∧ s.otherLinks t h ∧ s.answeredOnly t 16 .ok .empty
        ∧ t.talk = s.talk ∧ s.sameVenue t ∧ s.sameOutside t))
    ∧ ((s.link h).state = .settling ∨ (s.link h).state = .reverting →
        exec (.cancelRetune (.args h)) s = .next (s.respond 15 .tooLate .empty)
        ∧ exec (.tuneNow (.args h)) s = .next (s.respond 16 .tooLate .empty))
    ∧ ((s.link h).state ≠ .free → (s.link h).state ≠ .settling → (s.link h).state ≠ .reverting →
        (s.link h).state ≠ .retuneWait →
        exec (.cancelRetune (.args h)) s = .next (s.respond 15 .busy .empty)
        ∧ exec (.tuneNow (.args h)) s = .next (s.respond 16 .busy .empty))

/-- RETIRE by state and FORCE: its refusals; a CHECKING link FREE; any other accepted one RELEASING with a
MUTE owed, a candidate or waiting target dropped. The job of a CHECKING or RECHECK link is voided: a waiting
one leaves the queue, the others keeping their order, and a running one is marked and stays at the head. FREE
and a waiting target set sweep-wanted; in the other cases pool and engine stay as they were. A link that was
plan-eligible leaves both plans, plan owed being set, or the PLAN beginning, where one held it, and the
WAITING and TALKING keys of its pack become IDLE (R62, R63, R83, R84, R96, R148, R165). -/
def Obligations.RetireByState : Prop :=
  ∀ (h force : Nat) (s : State), s.accepts → h ≤ 159 →
    ((s.link h).state = .free →
      exec (.retire (.args ⟨h, force⟩)) s = .next (s.respond 17 .noLink .empty))
    ∧ ((s.link h).state = .releasing
        ∨ force = 0 ∧ ((s.link h).state = .settling ∨ (s.link h).state = .reverting) →
      exec (.retire (.args ⟨h, force⟩)) s = .next (s.respond 17 .busy .empty))
    ∧ (force = 0 → (s.link h).state = .retuneWait
        ∨ s.onAir h = true ∧ ((s.link h).state = .active ∨ (s.link h).state = .recheck
          ∨ (s.link h).state = .referred) →
      exec (.retire (.args ⟨h, force⟩)) s = .next (s.respond 17 .onAir .empty))
    ∧ (s.engineSettled → (s.link h).state = .checking →
      ∃ t, exec (.retire (.args ⟨h, force⟩)) s = .next t ∧ (t.link h).lasting = Link.free.lasting
        ∧ s.otherLinks t h ∧ s.answeredOnly t 17 .ok .empty ∧ s.sameVenue t ∧ s.sameOutside t
        ∧ s.jobVoided t h ∧ s.sweepAsked s.pool t)
    ∧ (s.engineSettled →
        (s.link h).state = .lost
          ∨ force ≠ 0 ∧ ((s.link h).state = .settling ∨ (s.link h).state = .reverting
            ∨ (s.link h).state = .retuneWait)
          ∨ (force ≠ 0 ∨ s.onAir h = false) ∧ ((s.link h).state = .active ∨ (s.link h).state = .recheck
            ∨ (s.link h).state = .referred) →
      ∃ t, exec (.retire (.args ⟨h, force⟩)) s = .next t
        ∧ s.linkBecomes t h { s.link h with
            state := .releasing, order := some .mute, timer := none, tries := 0, forced := false,
            job := none
            target := if (s.link h).state = .recheck ∨ (s.link h).state = .retuneWait then none
              else (s.link h).target }
        ∧ s.otherLinks t h ∧ s.answeredOnly t 17 .ok .empty ∧ s.sameOutside t
        ∧ ((s.link h).state = .recheck → s.jobVoided t h)
        ∧ ((s.link h).state ≠ .recheck → t.engine.queue = s.engine.queue)
        ∧ ((s.link h).state = .retuneWait → s.sweepAsked s.pool t)
        ∧ ((s.link h).state ≠ .retuneWait → t.pool = s.pool ∧ t.engine.work = s.engine.work)
        ∧ ((s.link h).state.planEligible = true →
            s.trimmed t h ∧ (s.talk.sound → s.packSilenced t h))
        ∧ ((s.link h).state.planEligible = false → t.plans = s.plans ∧ t.talk = s.talk))

/-- MUTED in RELEASING or LOST and DISCARD in LOST free the link: the record takes its FREE values, no
destination names it and its keys are DISABLED; sweep-wanted is set, and acted on at once by an IDLE engine;
RELEASED follows a MUTED only. MUTED in any other state is discarded (R78, R85 to R88, R96, R148, R149). -/
def Obligations.FreeingEvents : Prop :=
  ∀ (h : Nat) (s : State), h ≤ 159 → s.quiet → s.talk.sound →
    (s.live → (s.link h).state = .releasing ∨ (s.link h).state = .lost →
      ∃ t, exec (.muted (.fields h)) s = .next t ∧ (t.link h).lasting = Link.free.lasting
        ∧ s.otherLinks t h ∧ t.port = s.port.queue (.released h (s.link h).label)
        ∧ s.sweepAsked s.pool t
        ∧ (∀ k x, t.talk.key k = some x → x.ofPack (· == h) = true → x.state = .disabled)
        ∧ (∀ id d, t.talk.dest id = some d → d.target ≠ some h ∧ d.watch ≠ some h)
        ∧ t.engine.queue = s.engine.queue ∧ t.plans = s.plans ∧ s.sameOutside t)
    ∧ (s.live → (s.link h).state ≠ .releasing → (s.link h).state ≠ .lost →
        exec (.muted (.fields h)) s = .next { s with radio := { s.radio with received := [] } })
    ∧ (s.accepts → (s.link h).state = .lost →
        ∃ t, exec (.discard (.args h)) s = .next t ∧ (t.link h).lasting = Link.free.lasting
          ∧ s.otherLinks t h ∧ s.answeredOnly t 18 .ok .empty ∧ s.sweepAsked s.pool t
          ∧ (∀ k x, t.talk.key k = some x → x.ofPack (· == h) = true → x.state = .disabled)
          ∧ (∀ id d, t.talk.dest id = some d → d.target ≠ some h ∧ d.watch ≠ some h)
          ∧ t.engine.queue = s.engine.queue ∧ t.plans = s.plans ∧ s.sameOutside t)

/-- The expiries of a link's timer: SETTLE reverts a retune, resends an admission's TUNE once and then loses
the link; RELEASE resends the MUTE once and then loses it; REFERRAL returns it to ACTIVE. A link lost from
SETTLING or REVERTING leaves both plans, plan owed being set, or the PLAN beginning, where one held it, and
the WAITING and TALKING keys of its pack become IDLE (R80 to R82, R84, R85, R109, R148, R165). That the
timebase then stands at the deadline at least is the model's choice (log entry 1). -/
def Obligations.LinkTimerExpiries : Prop :=
  ∀ (h d : Nat) (s : State), s.pins.inReset = false → h < 160 → s.quiet →
    ((s.link h).timer = some ⟨.settle, d⟩ → (s.link h).state = .settling →
      ((s.link h).carrier.isSome = true →
        ∃ t, exec (.settleTimerExpiry h) s = .next t
          ∧ s.linkBecomes t h { s.link h with
              state := .reverting, order := (s.link h).carrier.map .tune, timer := none, tries := 0 }
          ∧ s.otherLinks t h ∧ t.port = s.port ∧ t.talk = s.talk ∧ s.sameVenue t
          ∧ t.now = max s.now d ∧ t.tally = s.tally)
      ∧ ((s.link h).carrier = none → (s.link h).tries = 0 →
        ∃ t, exec (.settleTimerExpiry h) s = .next t
          ∧ s.linkBecomes t h { s.link h with
              order := (s.link h).target.map .tune, timer := none, tries := 1 }
          ∧ s.otherLinks t h ∧ t.port = s.port ∧ t.talk = s.talk ∧ s.sameVenue t
          ∧ t.now = max s.now d ∧ t.tally = s.tally))
    ∧ ((s.link h).timer = some ⟨.settle, d⟩ → (s.link h).state = .reverting
        ∨ (s.link h).state = .settling ∧ (s.link h).carrier = none ∧ (s.link h).tries ≠ 0 →
      ∃ t, exec (.settleTimerExpiry h) s = .next t
        ∧ s.linkBecomes t h { s.link h with
            state := .lost, order := none, timer := none, tries := 0, forced := false }
        ∧ s.otherLinks t h
        ∧ t.port = s.port.queue (.linkLost h (s.link h).state
            ((s.link h).carrier.toList.map (fun f => (0, f))
              ++ (s.link h).target.toList.map fun f => (1, f)))
        ∧ s.trimmed t h ∧ (s.talk.sound → s.packSilenced t h)
        ∧ t.now = max s.now d ∧ t.tally = s.tally)
    ∧ ((s.link h).timer = some ⟨.release, d⟩ → (s.link h).state = .releasing →
      ((s.link h).tries = 0 →
        ∃ t, exec (.releaseTimerExpiry h) s = .next t
          ∧ s.linkBecomes t h { s.link h with order := some .mute, timer := none, tries := 1 }
          ∧ s.otherLinks t h ∧ t.port = s.port ∧ t.talk = s.talk ∧ s.sameVenue t
          ∧ t.now = max s.now d ∧ t.tally = s.tally)
      ∧ ((s.link h).tries ≠ 0 →
        ∃ t, exec (.releaseTimerExpiry h) s = .next t
          ∧ s.linkBecomes t h { s.link h with
              state := .lost, order := none, timer := none, tries := 0, forced := false }
          ∧ s.otherLinks t h
          ∧ t.port = s.port.queue (.linkLost h .releasing
              ((s.link h).carrier.toList.map (fun f => (0, f))
                ++ (s.link h).target.toList.map fun f => (1, f)))
          ∧ t.talk = s.talk ∧ s.sameVenue t ∧ t.now = max s.now d ∧ t.tally = s.tally))
    ∧ ((s.link h).timer = some ⟨.referral, d⟩ → (s.link h).state = .referred →
      ∃ t, exec (.referralTimerExpiry h) s = .next t
        ∧ s.linkBecomes t h { s.link h with state := .active, timer := none }
        ∧ s.otherLinks t h
        ∧ t.port = s.port.queue
            (.referralExpired h ((s.link h).carrier.getD 0) (s.link h).interference)
        ∧ t.talk = s.talk ∧ s.sameVenue t ∧ t.now = max s.now d ∧ t.tally = s.tally)

/-- TUNED in SETTLING, REVERTING or LOST makes the link ACTIVE on the step it names, the target first and then
the carrier, with RETUNE_DONE or RETUNE_REVERTED; where the link held two carriers one leaves the occupied
set, and sweep-wanted is set and acted on at once by an IDLE engine; any other TUNED is discarded (R78 to R82,
R86, R96). That RETUNE_DONE is marked as ending an admission where the link had no carrier, and that the field
matched decides the notice of every LOST link, are the model's choices (log entry 15). -/
def Obligations.TunedIsMatched : Prop :=
  ∀ (h f : Nat) (s : State), s.live → h ≤ 159 → f ≤ 108000 → (s.link h).state ≠ .free →
    ((s.link h).state = .settling ∨ (s.link h).state = .reverting ∨ (s.link h).state = .lost → s.quiet →
      (s.link h).target = some f ∨ (s.link h).carrier = some f →
      ∃ t, exec (.tuned (.fields ⟨h, f⟩)) s = .next t
        ∧ s.linkBecomes t h { s.link h with
            state := .active, carrier := some f, target := none, order := none, timer := none,
            forced := false, tries := 0,
            lampOwed := (s.link h).lampOwed || (s.link h).kind == some .camera }
        ∧ ((s.link h).target = some f →
            t.port = s.port.queue (.retuneDone h f (s.link h).carrier.isNone))
        ∧ ((s.link h).target ≠ some f →
            t.port = s.port.queue (.retuneReverted h f (s.link h).target))
        ∧ ((s.link h).carrier.isSome = true → (s.link h).target.isSome = true → s.sweepAsked s.pool t)
        ∧ ((s.link h).carrier = none ∨ (s.link h).target = none → s.engineSettled → t.pool = s.pool)
        ∧ s.otherLinks t h ∧ t.engine.queue = s.engine.queue ∧ t.plans = s.plans ∧ s.sameOutside t)
    ∧ (((s.link h).state ≠ .settling ∧ (s.link h).state ≠ .reverting ∧ (s.link h).state ≠ .lost)
        ∨ ((s.link h).target ≠ some f ∧ (s.link h).carrier ≠ some f) →
      exec (.tuned (.fields ⟨h, f⟩)) s = .next { s with radio := { s.radio with received := [] } })

/-! ### Chapter 3: checks and their verdicts -/

/-- The completion of a check delivers its verdict: an admission SETTLES or is freed; a retune is granted,
waiting in RETUNE_WAIT where the link is on air and not forced, or returns to ACTIVE; a MOVE takes or leaves
its zones. Each queues its CHECK_RESULT with the state entered. After a PASS each CLEAR spare is judged
against the new occupied set and keeps CLEAR with its new margin or becomes SPOILED, every other spare keeping
its status and margin, and the low-pool evaluation follows where the number of CLEAR spares has changed; after
a FAIL, and after a voided job, which delivers nothing, every spare keeps its status (R44, R63, R66, R67, R68,
R70, R71, R73, R95, R101). -/
def Obligations.CheckCompletionDelivers : Prop :=
  ∀ (s : State) (occ : List Party) (failures f : Nat) (j : Job) (rest : List Job),
    s.pins.inReset = false → s.engine.work = .job occ none failures → s.engine.queue = j :: rest →
    calmRest rest → j.step = some f → j.handle < 160 →
    ∃ t, exec .checkCompletion s = .next t ∧ t.engine.queue = rest ∧ s.otherLinks t j.handle
      ∧ s.sameVenue t ∧ s.sameOutside t
      ∧ (j.void = true →
          (t.link j.handle).lasting = (s.link j.handle).lasting ∧ t.port = s.port ∧ t.talk = s.talk
          ∧ t.pool.armed = s.pool.armed ∧ ∀ i, s.slotKept t i)
      ∧ (j.void = false →
          (∀ m tm, s.check occ (s.jobCandidate j f) = .pass m tm → ∀ i, s.slotRejudged t i)
          ∧ (∀ e, s.check occ (s.jobCandidate j f) = .fail e →
            t.pool.armed = s.pool.armed ∧ ∀ i, s.slotKept t i))
      ∧ (j.void = false → (s.link j.handle).state = .checking →
          (∀ m tm, s.check occ (s.jobCandidate j f) = .pass m tm →
            s.linkBecomes t j.handle { s.link j.handle with
              state := .settling, carrier := none, target := some f, job := none,
              order := some (.tune f), tries := 0, interference := 0, timer := none }
            ∧ s.lowPoolJudged t
                (s.port.queue (.checkResult j.kind j.handle j.forced (.pass f m tm) .settling)))
          ∧ (∀ e, s.check occ (s.jobCandidate j f) = .fail e →
            (t.link j.handle).lasting = Link.free.lasting
            ∧ t.port = s.port.queue (.checkResult j.kind j.handle j.forced (.fail f e) .free)))
      ∧ (j.void = false → (s.link j.handle).state = .recheck → (s.link j.handle).job ≠ some .move →
          (∀ m tm, s.check occ (s.jobCandidate j f) = .pass m tm →
            (s.onAir j.handle = true → (s.link j.handle).forced = false →
              s.linkBecomes t j.handle { s.link j.handle with
                state := .retuneWait, target := some f, job := none, order := none, timer := none }
              ∧ s.lowPoolJudged t
                  (s.port.queue (.checkResult j.kind j.handle j.forced (.pass f m tm) .retuneWait)))
            ∧ (s.onAir j.handle = false ∨ (s.link j.handle).forced = true →
              s.linkBecomes t j.handle { s.link j.handle with
                state := .settling, target := some f, job := none, order := some (.tune f),
                timer := none }
              ∧ s.lowPoolJudged t
                  (s.port.queue (.checkResult j.kind j.handle j.forced (.pass f m tm) .settling))))
          ∧ (∀ e, s.check occ (s.jobCandidate j f) = .fail e →
            s.linkBecomes t j.handle { s.link j.handle with
              state := .active, target := none, job := none, forced := false, timer := none }
            ∧ t.port = s.port.queue (.checkResult j.kind j.handle j.forced (.fail f e) .active)))
      ∧ (j.void = false → (s.link j.handle).state = .recheck → (s.link j.handle).job = some .move →
          s.linkBecomes t j.handle { s.link j.handle with
            state := .active, target := none, job := none, forced := false, timer := none
            zones := (match s.check occ (s.jobCandidate j f) with
              | .pass _ _ => j.zones
              | .fail _ => (s.link j.handle).zones) }
          ∧ (∀ m tm, s.check occ (s.jobCandidate j f) = .pass m tm → s.lowPoolJudged t
              (s.port.queue (.checkResult j.kind j.handle j.forced (.pass f m tm) .active)))
          ∧ (∀ e, s.check occ (s.jobCandidate j f) = .fail e →
              t.port = s.port.queue (.checkResult j.kind j.handle j.forced (.fail f e) .active)))

/-- A check passes exactly where the candidate lies within the span, touches no blocked channel, stands clear
of every carrier that shares a zone, and no product it meets or forms falls within its requirement. A FAIL
names the span edge, low first; then the first blocked channel touched; then the first term that fails, in the
order of R54. A PASS carries the smallest margin, saturated, and the first term that has it, or 65535 and no
term where none was formed (R48 to R57). -/
def Obligations.PassMeansClear : Prop :=
  ∀ (p : Profile) (m : Tab 96 Bool) (occ : List Party) (c : Party),
    ((∃ margin term, check p m occ c = .pass margin term)
      ↔ p.inSpan c ∧ p.unblocked m c 96 ∧ p.termsClear occ c)
    ∧ (∀ e f, check p m occ c = .fail (.span e f)
      ↔ e = .low ∧ f = p.spanLow ∧ (c.step : Int) - c.half < p.spanLow
        ∨ e = .high ∧ f = p.spanHigh ∧ (p.spanLow : Int) ≤ c.step - c.half
          ∧ (p.spanHigh : Int) < c.step + c.half)
    ∧ (∀ k, check p m occ c = .fail (.blocked k)
      ↔ p.inSpan c ∧ k < 96 ∧ m.get k false = true ∧ p.touches c.step c.half k = true
        ∧ p.unblocked m c k)
    ∧ (∀ r, check p m occ c = .fail (.term r)
      ↔ p.inSpan c ∧ p.unblocked m c 96 ∧ ∃ before u after, checkTerms p occ c = before ++ u :: after
        ∧ u.ref = r ∧ u.margin < 0 ∧ ∀ w, w ∈ before → 0 ≤ w.margin)
    ∧ (∀ margin term, check p m occ c = .pass margin term →
      (checkTerms p occ c = [] → margin = 65535 ∧ term = none)
      ∧ (checkTerms p occ c ≠ [] → ∃ before u after, checkTerms p occ c = before ++ u :: after
        ∧ term = some u.ref ∧ (margin : Int) = min u.margin 65535
        ∧ (∀ w, w ∈ before → u.margin < w.margin) ∧ ∀ w, w ∈ after → u.margin ≤ w.margin))
    ∧ (c.key = .candidate → (∀ o, o ∈ occ → o.key ≠ .candidate) →
      occ.Pairwise (fun a b => a.key.before b.key = true) →
      (checkTerms p occ c).Pairwise fun a b => a.ref.before b.ref = true)

/-- The end of a trial: a passing spare leaves the pool and its step is granted, and each CLEAR spare left is
judged against the new occupied set; a failing one is SPOILED, and the next matching spare is tried, up to
four; after the fourth, or where no further one matches, NO_SPARE with the trials made, the other spares
keeping their status. The low-pool evaluation follows the notice of the event where the number of CLEAR spares
has changed. The trial of a voided job delivers nothing and leaves every spare as it was (R60, R63, R66, R67,
R70, R71, R95, R100, R101, R105). -/
def Obligations.TrialEnds : Prop :=
  ∀ (s : State) (occ : List Party) (slot failures : Nat) (j : Job) (rest : List Job) (sp : Spare),
    s.pins.inReset = false → s.engine.work = .job occ (some slot) failures →
    s.engine.queue = j :: rest → calmRest rest → j.handle < 160 → slot < 32 →
    s.pool.slots.get slot none = some sp →
    (j.void = false →
      ∃ t, exec .trialEnd s = .next t ∧ s.otherLinks t j.handle ∧ s.sameVenue t ∧ s.sameOutside t
      ∧ (∀ m tm, s.check occ (s.jobCandidate j sp.step) = .pass m tm →
          t.pool.slots.get slot none = none ∧ t.engine.queue = rest
          ∧ (∀ i, i ≠ slot → s.slotRejudged t i)
          ∧ ((s.link j.handle).state = .checking →
              s.linkBecomes t j.handle { s.link j.handle with
                state := .settling, carrier := none, target := some sp.step, job := none,
                order := some (.tune sp.step), tries := 0, interference := 0, timer := none }
              ∧ s.lowPoolJudged t (s.port.queue (.checkResult j.kind j.handle j.forced
                  (.pass sp.step m tm) .settling)))
          ∧ ((s.link j.handle).state = .recheck → (s.link j.handle).job ≠ some .move →
              (t.link j.handle).target = some sp.step
              ∧ (t.link j.handle).state
                  = (if s.onAir j.handle = true ∧ (s.link j.handle).forced = false then .retuneWait
                    else .settling)
              ∧ s.lowPoolJudged t (s.port.queue (.checkResult j.kind j.handle j.forced
                  (.pass sp.step m tm) (t.link j.handle).state))))
      ∧ (∀ e next, s.check occ (s.jobCandidate j sp.step) = .fail e → failures < 3 →
          (s.pool.setSlot slot (some { sp with
              status := .spoiled, margin := none, inUse := .none })).pick j = some next →
          t.pool.slots.get slot none
              = some { sp with status := .spoiled, margin := none, inUse := .none }
          ∧ (t.pool.slots.get next none).map (·.inUse) = some .trial
          ∧ t.engine.work = .job occ (some next) (failures + 1) ∧ t.engine.queue = j :: rest
          ∧ s.lowPoolJudged t s.port ∧ (∀ i, i ≠ slot → s.slotKept t i)
          ∧ (t.link j.handle).lasting = (s.link j.handle).lasting)
      ∧ (∀ e, s.check occ (s.jobCandidate j sp.step) = .fail e →
          3 ≤ failures ∨ (s.pool.setSlot slot (some { sp with
              status := .spoiled, margin := none, inUse := .none })).pick j = none →
          t.engine.queue = rest
          ∧ (∃ sp', t.pool.slots.get slot none = some sp'
              ∧ { sp' with inUse := .none } = { sp with
                  status := .spoiled, margin := none, inUse := .none })
          ∧ (∀ i, i ≠ slot → s.slotKept t i)
          ∧ ((s.link j.handle).state = .checking →
              (t.link j.handle).lasting = Link.free.lasting
              ∧ s.lowPoolJudged t
                  (s.port.queue (.checkResult j.kind j.handle j.forced (.noSpare (failures + 1)) .free)))
          ∧ ((s.link j.handle).state = .recheck → (s.link j.handle).job ≠ some .move →
              (s.link j.handle).job ≠ some .auto →
              s.linkBecomes t j.handle { s.link j.handle with
                state := .active, target := none, job := none, forced := false, timer := none }
              ∧ s.lowPoolJudged t
                  (s.port.queue (.checkResult j.kind j.handle j.forced (.noSpare (failures + 1)) .active)))
          ∧ ((s.link j.handle).state = .recheck → (s.link j.handle).job = some .auto →
              (t.link j.handle).state = .referred
              ∧ s.lowPoolJudged t (s.port.queue (.referral j.handle ((s.link j.handle).carrier.getD 0)
                  (.pool (failures + 1)) (s.link j.handle).interference)))))
    ∧ (j.void = true →
      ∃ t, exec .trialEnd s = .next t ∧ t.engine.queue = rest
        ∧ (∀ h, (t.link h).lasting = (s.link h).lasting) ∧ t.port = s.port ∧ t.talk = s.talk
        ∧ t.pool.armed = s.pool.armed ∧ (∀ i, s.slotKept t i)
        ∧ s.sameVenue t ∧ s.sameOutside t)

/-- A sweep unit's completion marks its spare CLEAR with the margin found, or SPOILED with none; a slot that
no longer holds the spare it started with keeps what it holds, and so does every other slot. The low-pool
evaluation is made where the number of CLEAR spares has changed, and queues the only notice of the event (R61,
R98, R101). -/
def Obligations.SweepUnitApplies : Prop :=
  ∀ (s : State) (occ : List Party) (slot : Nat) (c : Party) (sp : Spare),
    s.pins.inReset = false → s.engine.work = .sweep occ slot c → slot < 32 → calmRest s.engine.queue →
    s.pool.slots.get slot none = some sp →
    ∃ t sp', exec .sweepUnitCompletion s = .next t ∧ t.pool.slots.get slot none = some sp'
      ∧ sp'.step = sp.step ∧ sp'.cls = sp.cls ∧ sp'.zones = sp.zones
      ∧ (sp.inUse = .sweep → ∀ m tm, s.check occ c = .pass m tm →
          sp'.status = .clear ∧ sp'.margin = some m)
      ∧ (sp.inUse = .sweep → ∀ e, s.check occ c = .fail e →
          sp'.status = .spoiled ∧ sp'.margin = none)
      ∧ (sp.inUse ≠ .sweep → sp'.status = sp.status ∧ sp'.margin = sp.margin)
      ∧ (∀ i, i ≠ slot → s.slotKept t i) ∧ s.lowPoolJudged t s.port
      ∧ t.engine.queue = s.engine.queue ∧ (∀ h, (t.link h).lasting = (s.link h).lasting)
      ∧ t.talk = s.talk ∧ s.sameVenue t ∧ s.sameOutside t

/-! ### Chapter 5: spares, interference and referrals -/

/-- SEED SPARE fills the lowest free slot and sets sweep-wanted, which an IDLE engine acts on at once; DROP
SPARE empties a slot unless its spare is under trial, with the low-pool evaluation where the spare was CLEAR
(R92, R93, R96, R97, R101). -/
def Obligations.SpareRequests : Prop :=
  (∀ (f c i : Nat) (z : ZoneSet) (s : State), s.accepts → f ≤ 108000 → c ≤ 7 → z ≠ 0 → s.engineSettled →
    (∀ k sp, s.pool.slots.get k none = some sp → sp.step ≠ f) →
    i < 32 → s.pool.slots.get i none = none → (∀ k, k < i → (s.pool.slots.get k none).isSome = true) →
    ∃ t sp, exec (.seedSpare (.args ⟨f, c, z⟩)) s = .next t
      ∧ t.pool.slots.get i none = some sp ∧ sp.step = f ∧ sp.cls = c ∧ sp.zones = z
      ∧ sp.status = .unchecked ∧ sp.margin = none
      ∧ s.sweepAsked { s.pool with
          slots := s.pool.slots.set i (some ⟨f, c, z, .unchecked, none, .none⟩) } t
      ∧ s.answeredOnly t 19 .ok (.slot i) ∧ t.engine.queue = s.engine.queue
      ∧ (∀ h, (t.link h).lasting = (s.link h).lasting)
      ∧ t.talk = s.talk ∧ s.sameVenue t ∧ s.sameOutside t)
  ∧ (∀ (i : Nat) (s : State), s.accepts → i ≤ 31 →
      (s.pool.slots.get i none = none →
        exec (.dropSpare (.args i)) s = .next (s.respond 20 .ok .empty))
      ∧ (∀ sp, s.pool.slots.get i none = some sp → sp.inUse = .trial →
        exec (.dropSpare (.args i)) s = .next (s.respond 20 .busy .empty))
      ∧ (∀ sp, s.pool.slots.get i none = some sp → sp.inUse ≠ .trial →
        ∃ t, exec (.dropSpare (.args i)) s = .next t ∧ t.port.owed = some ⟨20, .ok, .empty⟩
          ∧ t.pool.slots = s.pool.slots.set i none
          ∧ s.lowPoolJudged t { s.port.ended with owed := some ⟨20, .ok, .empty⟩ }
          ∧ t.pool.sweepWanted = s.pool.sweepWanted ∧ t.pool.sweepPos = s.pool.sweepPos
          ∧ (sp.status ≠ .clear → t.pool.armed = s.pool.armed ∧ t.port.notices = s.port.notices)
          ∧ t.links = s.links ∧ t.engine = s.engine ∧ t.talk = s.talk ∧ t.plans = s.plans
          ∧ t.radio = s.radio ∧ t.mtx = s.mtx ∧ s.sameOutside t))

/-- SET POOL THRESHOLD stores the value clamped to 32, arms the alert and evaluates at once: POOL_LOW and
disarmed at or below it (R101, R102). -/
def Obligations.SetPoolThresholdActs : Prop :=
  ∀ (n : Nat) (s : State), s.accepts →
    (min n 32 < s.pool.clearCount →
      exec (.setPoolThreshold (.args n)) s
        = .next (({ s with pool := { s.pool with threshold := min n 32, armed := true } }).respond
            22 .ok (.threshold (min n 32))))
    ∧ (s.pool.clearCount ≤ min n 32 →
      exec (.setPoolThreshold (.args n)) s
        = .next (({ s with
              pool := { s.pool with threshold := min n 32, armed := false }
              port := s.port.queue (.poolLow s.pool.clearCount (min n 32)) }).respond
            22 .ok (.threshold (min n 32))))

/-- DECLINE REFERRAL: its refusals, and the link ACTIVE on its carrier with no timer and no notice (R108). -/
def Obligations.DeclineReferralActs : Prop :=
  ∀ (h : Nat) (s : State), s.accepts →
    (159 < h → exec (.declineReferral (.args h)) s = .next (s.respond 24 .badArgument .empty))
    ∧ (h ≤ 159 → (s.link h).state ≠ .referred →
        exec (.declineReferral (.args h)) s = .next (s.respond 24 .noReferral .empty))
    ∧ (h ≤ 159 → (s.link h).state = .referred →
        exec (.declineReferral (.args h)) s
          = .next (({ s with
              links := s.links.set h { s.link h with state := .active, timer := none } }).respond
                24 .ok .empty))

/-- INTERFERENCE raises the count in every state; an ACTIVE link is queued for an AUTO retune, referred, or
reported, by its policy (R103, R104, R106). -/
def Obligations.InterferenceByPolicy : Prop :=
  ∀ (h v : Nat) (l : Link) (s : State), s.live → h ≤ 159 → (s.link h).state ≠ .free →
    l = { s.link h with interference := min ((s.link h).interference + 1) 255 } →
    (l.state ≠ .active →
      exec (.interference (.fields ⟨h, v⟩)) s = .next { s with
        radio := { s.radio with received := [] }, links := s.links.set h l })
    ∧ (l.state = .active → s.quiet → l.policy = some .none →
      ∃ t, exec (.interference (.fields ⟨h, v⟩)) s = .next t ∧ s.linkBecomes t h l ∧ s.otherLinks t h
        ∧ t.port = s.port.queue (.interference h (min v 3) l.interference)
        ∧ t.engine.queue = s.engine.queue ∧ t.talk = s.talk ∧ t.plans = s.plans ∧ s.sameOutside t)
    ∧ (l.state = .active → s.quiet →
        ∀ why, (l.policy = some .refer ∧ why = .policy (min v 3))
          ∨ (l.policy = some .auto ∧ 12 ≤ s.engine.queue.length ∧ why = .queue (min v 3)) →
      ∃ t, exec (.interference (.fields ⟨h, v⟩)) s = .next t
        ∧ s.linkBecomes t h { l with
            state := .referred, job := none, target := none, forced := false, order := none
            timer := some ⟨.referral, s.now + s.engine.prof.windowMs⟩ }
        ∧ s.otherLinks t h ∧ t.port = s.port.queue (.referral h (l.carrier.getD 0) why l.interference)
        ∧ t.engine.queue = s.engine.queue ∧ t.talk = s.talk ∧ t.plans = s.plans ∧ s.sameOutside t)
    ∧ (l.state = .active → l.policy = some .auto → s.engine.queue.length < 12 →
        ∀ j : Job, j = ⟨.auto, h, none, l.cls.getD 0, l.zones, false, false⟩ → s.startsOrWaits j →
      ∃ t, exec (.interference (.fields ⟨h, v⟩)) s = .next t
        ∧ s.linkBecomes t h { l with state := .recheck, job := some .auto, target := none }
        ∧ s.otherLinks t h ∧ t.port = s.port ∧ t.engine.queue = s.engine.queue ++ [j]
        ∧ t.talk = s.talk ∧ t.plans = s.plans ∧ s.sameOutside t)

/-! ### Chapter 6: tally -/

/-- An accepted LOAD TALLY MAP makes every present source AWAITING with empty lists and recomputes every link;
CLEAR SOURCE does the same for one source. A link whose on-air value changes takes the change in that event: a
RETUNE_WAIT link taken off air becomes SETTLING with TUNE (target) owed, an unforced one whose TUNE has not
been sent and that goes on air returns to RETUNE_WAIT with its order withdrawn; no other state, order or timer
changes, nothing else of a record but its tally, its stale flag and its lamp, and the destinations stand as
computed afterwards. Two subsidiaries that feed each other are a CONFLICT, and a source absent from the map a
BAD_ARGUMENT (R28, R74, R111, R112, R116, R119, R124, R128, R140). -/
def Obligations.TallyMapRequests : Prop :=
  (∀ (a : MapArgs) (m : TallyMap) (s : State), s.accepts → s.quiet → mapJudge a = .stored m →
    ∃ t, exec (.loadTallyMap (.args a)) s = .next t ∧ s.answeredOnly t 25 .ok (.tallyMap m)
      ∧ t.tally = ⟨some m, Src.awaiting, if m.cascade1.isSome then Src.awaiting else Src.absent,
          if m.cascade2.isSome then Src.awaiting else Src.absent⟩
      ∧ (∀ h, h < 160 → (t.link h).bindings = (s.link h).bindings
          ∧ (t.link h).tally = t.tally.resolve (s.link h).bindings
          ∧ (t.link h).stale = t.tally.staleOf (s.link h).bindings ∧ s.lampFollows t h)
      ∧ (∀ h, (t.link h).apartFromTally = (s.link h).apartFromTally ∧ s.onAirTaken t h) ∧ t.standing
      ∧ t.engine.queue = s.engine.queue ∧ s.sameVenue t
      ∧ t.lines = s.lines ∧ t.pins = s.pins ∧ t.now = s.now ∧ t.pending = s.pending)
  ∧ (∀ (a : MapArgs) (i k : Nat) (s : State), s.accepts → a.present1 ≠ 0 → a.present2 ≠ 0 →
      a.cascade1 = ⟨2, i⟩ → a.cascade2 = ⟨1, k⟩ → 1 ≤ i → i ≤ 24 → 1 ≤ k → k ≤ 24 →
      exec (.loadTallyMap (.args a)) s = .next (s.respond 25 .conflict .empty))
  ∧ (∀ (n : Nat) (x : Source) (s : State), s.accepts → sourceOf n = some x →
      (s.quiet → s.tally.present x = true →
        ∃ t, exec (.clearSource (.args n)) s = .next t ∧ s.answeredOnly t 26 .ok .empty
          ∧ t.tally = s.tally.setSrc x Src.awaiting
          ∧ (∀ h, h < 160 → (s.link h).boundThrough s.tally x = true →
              (t.link h).tally = t.tally.resolve (s.link h).bindings
              ∧ (t.link h).stale = t.tally.staleOf (s.link h).bindings ∧ s.lampFollows t h)
          ∧ (∀ h, (s.link h).boundThrough s.tally x = false → (t.link h).lasting = (s.link h).lasting)
          ∧ (∀ h, (t.link h).bindings = (s.link h).bindings
              ∧ (t.link h).apartFromTally = (s.link h).apartFromTally ∧ s.onAirTaken t h)
          ∧ t.standing
          ∧ t.engine.queue = s.engine.queue ∧ s.sameVenue t
          ∧ t.lines = s.lines ∧ t.pins = s.pins ∧ t.now = s.now ∧ t.pending = s.pending)
      ∧ (s.tally.present x = false →
        exec (.clearSource (.args n)) s = .next (s.respond 26 .badArgument .empty)))

/-- BIND appends a binding and recomputes the link; an input bound to another link is a DUPLICATE that names
it, a third binding TABLE_FULL. UNBIND removes a binding from whichever link holds it and names the link. The
on-air change of the link, where there is one, is taken in that event: a waiting retune is released off air,
an unforced one whose TUNE has not been sent waits again on air, and the destinations stand as computed;
nothing else of the record changes but its tally, its stale flag and its lamp (R28, R74, R121, R122, R124,
R128, R140). -/
def Obligations.BindingRequests : Prop :=
  (∀ (h n i : Nat) (x : Binding) (s : State), s.accepts → h ≤ 159 → bindingOf n i = some x →
    s.tally.present x.source = true → (s.link h).state.occupied = true → x ∉ (s.link h).bindings →
    ((∀ g, g < 160 → x ∉ (s.link g).bindings) → (s.link h).bindings.length < 2 → s.quiet →
      ∃ t, exec (.bind (.args ⟨h, n, i⟩)) s = .next t ∧ s.answeredOnly t 27 .ok .empty
        ∧ (t.link h).bindings = (s.link h).bindings ++ [x]
        ∧ (t.link h).tally = s.tally.resolve ((s.link h).bindings ++ [x])
        ∧ (t.link h).stale = s.tally.staleOf ((s.link h).bindings ++ [x]) ∧ s.lampFollows t h
        ∧ (t.link h).apartFromTally = (s.link h).apartFromTally ∧ s.onAirTaken t h ∧ t.standing
        ∧ s.otherLinks t h ∧ t.engine.queue = s.engine.queue ∧ s.sameVenue t ∧ s.sameOutside t)
    ∧ ((∀ g, g < 160 → x ∉ (s.link g).bindings) → 2 ≤ (s.link h).bindings.length →
        exec (.bind (.args ⟨h, n, i⟩)) s = .next (s.respond 27 .tableFull .empty))
    ∧ (∀ g, g < 160 → x ∈ (s.link g).bindings → (∀ k, k < g → x ∉ (s.link k).bindings) →
        exec (.bind (.args ⟨h, n, i⟩)) s = .next (s.respond 27 .duplicate (.handle g))))
  ∧ (∀ (h n i : Nat) (x : Binding) (s : State), s.accepts → bindingOf n i = some x → h < 160 →
      x ∈ (s.link h).bindings → (∀ k, k < h → x ∉ (s.link k).bindings) → s.quiet →
      ∃ t, exec (.unbind (.args ⟨n, i⟩)) s = .next t ∧ s.answeredOnly t 28 .ok (.handle h)
        ∧ (t.link h).bindings = (s.link h).bindings.erase x
        ∧ (t.link h).tally = s.tally.resolve ((s.link h).bindings.erase x)
        ∧ (t.link h).stale = s.tally.staleOf ((s.link h).bindings.erase x) ∧ s.lampFollows t h
        ∧ (t.link h).apartFromTally = (s.link h).apartFromTally ∧ s.onAirTaken t h ∧ t.standing
        ∧ s.otherLinks t h ∧ t.engine.queue = s.engine.queue ∧ s.sameVenue t ∧ s.sameOutside t)

/-- HOLD LIVE and SUPPRESS set and clear their flags on occupied links. Setting the hold puts the link on air:
an unforced retune whose TUNE has not been sent goes back to RETUNE_WAIT with its order withdrawn, and one
that waits goes on waiting; one whose TUNE has gone, a forced one and an admission stay SETTLING. Clearing the
hold of a link that its tally leaves off air releases a waiting retune: SETTLING with TUNE (target) owed. No
other state, order or timer changes, nothing else of the record but its tally, its stale flag and its lamp,
and the destinations stand as computed. Suppressing a camera makes its lamp OFF, steady (R28, R74, R124 to
R128, R140). That a hold which leaves the flag as it was recomputes nothing, and one that changes it
recomputes the link's tally, are the model's choices (log entry 14). -/
def Obligations.HoldLiveAndSuppress : Prop :=
  ∀ (h n : Nat) (s : State), s.accepts → h ≤ 159 → (s.link h).state.occupied = true → s.quiet →
    ((s.link h).holdLive ≠ (n != 0) →
      ∃ t, exec (.holdLive (.args ⟨h, n⟩)) s = .next t ∧ s.answeredOnly t 29 .ok .empty
        ∧ (t.link h).holdLive = (n != 0)
        ∧ (t.link h).tally = s.tally.resolve (s.link h).bindings
        ∧ (t.link h).stale = s.tally.staleOf (s.link h).bindings ∧ s.lampFollows t h
        ∧ (t.link h).apartFromTally = { (s.link h).apartFromTally with holdLive := (n != 0) }
        ∧ (t.link h).bindings = (s.link h).bindings ∧ s.onAirTaken t h ∧ t.standing
        ∧ ((s.link h).state = .retuneWait → s.onAir h = true → t.onAir h = false →
            (t.link h).state = .settling
            ∧ (s.radioHeld → (t.link h).order = (s.link h).target.map .tune))
        ∧ (n ≠ 0 → t.onAir h = true)
        ∧ ((s.link h).state = .retuneWait → t.onAir h = true → (t.link h).state = .retuneWait)
        ∧ (∀ f, (s.link h).state = .settling → n ≠ 0 → s.onAir h = false →
            (s.link h).carrier.isSome = true → (s.link h).forced = false → (s.link h).target = some f →
            (s.link h).order = some (.tune f) →
            (t.link h).state = .retuneWait ∧ (t.link h).order = none)
        ∧ ((s.link h).state = .settling → n = 0 ∨ s.onAir h = true ∨ (s.link h).carrier = none
            ∨ (s.link h).forced = true ∨ (s.link h).order = none → (t.link h).state = .settling)
        ∧ ((s.link h).state ≠ .retuneWait → (s.link h).state ≠ .settling →
            (t.link h).state = (s.link h).state)
        ∧ s.otherLinks t h ∧ t.engine.queue = s.engine.queue ∧ s.sameVenue t ∧ s.sameOutside t)
    ∧ ((s.link h).holdLive = (n != 0) →
        exec (.holdLive (.args ⟨h, n⟩)) s = .next (s.respond 29 .ok .empty))
    ∧ ((s.link h).kind = some .camera →
      ∃ t, exec (.suppress (.args ⟨h, n⟩)) s = .next t ∧ s.answeredOnly t 30 .ok .empty
        ∧ (t.link h).suppress = (n != 0) ∧ (n ≠ 0 → (t.link h).lamp = Lamp.dark)
        ∧ (s.radioHeld → (t.link h).lamp ≠ (s.link h).lastLamp → (t.link h).lampOwed = true)
        ∧ (t.link h).holdLive = (s.link h).holdLive
        ∧ s.otherLinks t h ∧ t.engine.queue = s.engine.queue ∧ s.sameVenue t ∧ s.sameOutside t)
    ∧ ((s.link h).kind ≠ some .camera →
        exec (.suppress (.args ⟨h, n⟩)) s = .next (s.respond 30 .badArgument .empty))

/-- A well-formed frame on the line of a present source replaces its lists, makes it LIVE, restarts its timer,
and queues SOURCE_LIVE from STALE; a liveness expiry makes a source STALE, holds its lists and queues
SOURCE_STALE. The links bound through the source are recomputed, and a link whose on-air value changes takes
the change in that event: a RETUNE_WAIT link taken off air becomes SETTLING with TUNE (target) owed, an
unforced one whose TUNE has not been sent and that goes on air returns to RETUNE_WAIT with its order
withdrawn; no other state, order or timer changes, nothing else of a record but its tally, its stale flag and
its lamp, nothing of a link not bound through the source, and the destinations stand as computed afterwards
(R28, R74, R114, R115, R119, R124, R128, R140). That the preview list keeps an input that is on program too is
the model's choice (log entry 16). That the timebase then stands at the deadline at least is the model's
choice (log entry 1). -/
def Obligations.FramesAndLiveness : Prop :=
  (∀ (x : Source) (p q : List Nat) (m : TallyMap) (s : State), s.live → s.tally.map = some m →
    s.tally.present x = true → p.length ≤ 48 → q.length ≤ 48 → s.quiet →
    ∃ t v, exec (.tallyFrame x (.fields ⟨p, q⟩)) s = .next t ∧ t.tally = s.tally.setSrc x v
      ∧ v.state = .live
      ∧ (∀ i, i ∈ v.program ↔ 1 ≤ i ∧ i ≤ sourceInputs x ∧ i ∈ p)
      ∧ (∀ i, i ∈ v.preview ↔ 1 ≤ i ∧ i ≤ sourceInputs x ∧ i ∈ q)
      ∧ v.deadline = (if m.live x = 0 then none else some (s.now + 10 * m.live x))
      ∧ t.port = (if (s.tally.src x).state = .stale then s.port.queue (.sourceLive x) else s.port)
      ∧ (∀ h, h < 160 → (s.link h).boundThrough s.tally x = true →
          (t.link h).tally = t.tally.resolve (s.link h).bindings
          ∧ (t.link h).stale = t.tally.staleOf (s.link h).bindings ∧ s.lampFollows t h)
      ∧ (∀ h, (s.link h).boundThrough s.tally x = false → (t.link h).lasting = (s.link h).lasting)
      ∧ (∀ h, (t.link h).bindings = (s.link h).bindings
          ∧ (t.link h).apartFromTally = (s.link h).apartFromTally ∧ s.onAirTaken t h)
      ∧ t.standing
      ∧ t.engine.queue = s.engine.queue ∧ s.sameVenue t ∧ t.pins = s.pins ∧ t.now = s.now)
  ∧ (∀ (x : Source) (d : Nat) (s : State), s.pins.inReset = false → (s.tally.src x).deadline = some d →
      s.quiet →
      ∃ t, exec (.livenessExpiry x) s = .next t
        ∧ t.tally = s.tally.setSrc x { s.tally.src x with state := .stale, deadline := none }
        ∧ t.port = s.port.queue (.sourceStale x) ∧ t.now = max s.now d
        ∧ (∀ h, h < 160 → (s.link h).boundThrough s.tally x = true →
            (t.link h).tally = t.tally.resolve (s.link h).bindings
            ∧ (t.link h).stale = t.tally.staleOf (s.link h).bindings ∧ s.lampFollows t h)
        ∧ (∀ h, (s.link h).boundThrough s.tally x = false → (t.link h).lasting = (s.link h).lasting)
        ∧ (∀ h, (t.link h).bindings = (s.link h).bindings
            ∧ (t.link h).apartFromTally = (s.link h).apartFromTally ∧ s.onAirTaken t h)
        ∧ t.standing
        ∧ t.engine.queue = s.engine.queue ∧ s.sameVenue t ∧ t.pins = s.pins ∧ t.lines = s.lines)

/-! ### Chapter 7: keys and destinations -/

/-- An accepted DEFINE KEY writes an IDLE key and puts it at the end of the ring of its level: a new key,
and one whose destination or level has changed, which leaves its old ring; one with both unchanged keeps its
place. No talking set, waiting list or request order changes (R132). -/
def Obligations.DefineKeyWrites : Prop :=
  ∀ (a : KeyArgs) (o : Origin) (type : KeyType) (d : Dest) (s : State), s.accepts → a.key ≤ 95 →
    originOf a.originKind a.origin1 a.origin2 = some o → keyTypeOf a.type = some type →
    a.dest ≤ 31 → s.talk.dest a.dest = some d → a.level ≤ 7 →
    (∀ x, s.talk.key a.key = some x → x.state = .idle ∨ x.state = .disabled) →
    (∀ h b, o = .pack h b → (s.link h).state.occupied = true ∧ (s.link h).kind = some .beltpack) →
    (∀ j y, j ≠ a.key → s.talk.key j = some y → y.origin ≠ o) →
    ∃ t, exec (.defineKey (.args a)) s = .next t ∧ s.answeredOnly t 32 .ok .empty
      ∧ t.talk.key a.key = some ⟨o, a.dest, a.level, type, .idle, none⟩
      ∧ (∀ j, j ≠ a.key → t.talk.key j = s.talk.key j)
      ∧ (∀ id, (t.talk.dest id).map (fun e => { e with rings := Tab.fill 8 [] })
          = (s.talk.dest id).map fun e => { e with rings := Tab.fill 8 [] })
      ∧ (s.talk.key a.key = none → ∃ e, t.talk.dest a.dest = some e
          ∧ e.ring a.level = (d.ring a.level).erase a.key ++ [a.key]
          ∧ ∀ l, l ≠ a.level → e.ring l = d.ring l)
      ∧ (∀ x, s.talk.key a.key = some x → x.dest = a.dest → x.level = a.level →
          t.talk.dests = s.talk.dests)
      ∧ (∀ x, s.talk.key a.key = some x → x.dest ≠ a.dest ∨ x.level ≠ a.level →
          (∃ e, t.talk.dest a.dest = some e
            ∧ e.ring a.level = (d.ring a.level).erase a.key ++ [a.key])
          ∧ ∀ d', s.talk.dest x.dest = some d' → ∃ e, t.talk.dest x.dest = some e
            ∧ e.ring x.level = (d'.ring x.level).erase a.key)
      ∧ t.links = s.links ∧ t.engine = s.engine ∧ t.pool = s.pool ∧ t.plans = s.plans
      ∧ t.radio = s.radio ∧ t.mtx = s.mtx ∧ s.sameOutside t

/-- DELETE KEY: its refusals; an undefined entry is answered OK; an IDLE or DISABLED key leaves its ring and
its entry becomes undefined, no talking set or waiting list changing (R133). -/
def Obligations.DeleteKeyActs : Prop :=
  ∀ (k : Nat) (s : State), s.accepts →
    (95 < k → exec (.deleteKey (.args k)) s = .next (s.respond 33 .badArgument .empty))
    ∧ (k ≤ 95 → s.talk.key k = none → exec (.deleteKey (.args k)) s = .next (s.respond 33 .ok .empty))
    ∧ (∀ x, k ≤ 95 → s.talk.key k = some x → x.state = .waiting ∨ x.state = .talking →
        exec (.deleteKey (.args k)) s = .next (s.respond 33 .busy .empty))
    ∧ (∀ x, k ≤ 95 → s.talk.key k = some x → x.state = .idle ∨ x.state = .disabled →
        ∃ t, exec (.deleteKey (.args k)) s = .next t ∧ s.answeredOnly t 33 .ok .empty
          ∧ t.talk.key k = none ∧ (∀ j, j ≠ k → t.talk.key j = s.talk.key j)
          ∧ (∀ id, id ≠ x.dest → t.talk.dest id = s.talk.dest id)
          ∧ (∀ d, s.talk.dest x.dest = some d → ∃ e, t.talk.dest x.dest = some e
              ∧ (∀ l, e.ring l = if l = x.level then (d.ring l).erase k else d.ring l)
              ∧ { e with rings := d.rings } = d)
          ∧ t.links = s.links ∧ t.engine = s.engine ∧ t.pool = s.pool ∧ t.plans = s.plans
          ∧ t.radio = s.radio ∧ t.mtx = s.mtx ∧ s.sameOutside t)

/-- DEFINE DEST stores its fields clamped, with empty lists, the rings of a redefined destination and a
standing computed afresh; DELETE DEST undoes a destination no key and no plan names, and is BUSY for one
that is named (R135, R138). -/
def Obligations.DestinationTableRequests : Prop :=
  (∀ (a : DestArgs) (kind : DestKind) (mode : Mode) (s : State), s.accepts → a.dest ≤ 31 →
    destKindOf a.kind = some kind → modeOf a.mode = some mode →
    a.target = 255 ∨ kind = .ifb ∧ a.target ≤ 159 ∧ (s.link a.target).state.occupied = true
      ∧ (s.link a.target).kind = some .iem →
    a.watch = 255 ∨ a.watch ≤ 159 ∧ (s.link a.watch).state.occupied = true →
    (∀ d, s.talk.dest a.dest = some d → d.talking = [] ∧ d.waiting = []
      ∧ (d.kind = kind ∨ s.plans.active.names a.dest = false ∧ s.plans.pending.names a.dest = false)) →
    ∃ t e, exec (.defineDest (.args a)) s = .next t ∧ t.talk.dest a.dest = some e
      ∧ s.answeredOnly t 34 .ok (.destFields e)
      ∧ e.kind = kind ∧ e.mode = mode
      ∧ e.target = (if a.target = 255 then none else some a.target)
      ∧ e.watch = (if a.watch = 255 then none else some a.watch)
      ∧ e.limit = (if mode = .conference then max 1 (min a.limit 4) else 1)
      ∧ e.threshold = (if a.threshold = 255 then none else some (min a.threshold 7))
      ∧ e.rotation = (a.rotation != 0)
      ∧ e.talkLimit = (if a.talkLimit = 0 then 0 else max 10 (min a.talkLimit 600))
      ∧ e.talking = [] ∧ e.waiting = [] ∧ e.requests = []
      ∧ e.routed = s.routed a.dest e ∧ e.restricted = s.restricted e
      ∧ (∀ d, s.talk.dest a.dest = some d → e.rings = d.rings)
      ∧ (s.talk.dest a.dest = none → e.rings = Tab.fill 8 [])
      ∧ t.talk.keys = s.talk.keys ∧ (∀ id, id ≠ a.dest → t.talk.dest id = s.talk.dest id)
      ∧ t.links = s.links ∧ t.engine = s.engine ∧ t.pool = s.pool ∧ t.plans = s.plans
      ∧ t.radio = s.radio ∧ t.mtx = s.mtx ∧ s.sameOutside t)
  ∧ (∀ (id : Nat) (d : Dest) (s : State), s.accepts → id ≤ 31 → s.talk.dest id = some d →
      ((∃ k x, k < 96 ∧ s.talk.key k = some x ∧ x.dest = id)
          ∨ s.plans.active.names id = true ∨ s.plans.pending.names id = true →
        exec (.deleteDest (.args id)) s = .next (s.respond 37 .busy .empty))
      ∧ ((∀ k x, s.talk.key k = some x → x.dest ≠ id) → s.plans.active.names id = false →
          s.plans.pending.names id = false →
        exec (.deleteDest (.args id)) s = .next (({ s with
          talk := { s.talk with dests := s.talk.dests.set id none } }).respond 37 .ok .empty)))

/-- SET TARGET and SET WATCH replace the link a destination names, its standing recomputed in the same
event; no other destination changes (R136, R137, R147). -/
def Obligations.SetTargetAndWatch : Prop :=
  ∀ (id h : Nat) (d : Dest) (s : State), s.accepts → s.quiet → id ≤ 31 → s.talk.dest id = some d →
    (d.kind = .ifb → h = 255 ∨ h ≤ 159 ∧ (s.link h).state.occupied = true
        ∧ (s.link h).kind = some .iem →
      ∃ t e, exec (.setTarget (.args ⟨id, h⟩)) s = .next t ∧ s.answeredOnly t 35 .ok .empty
        ∧ t.talk.dest id = some e ∧ e.target = (if h = 255 then none else some h)
        ∧ e.watch = d.watch ∧ e.routed = s.routed id e ∧ e.restricted = s.restricted e
        ∧ e.requests = d.requests ∧ e.rings = d.rings
        ∧ (∀ i, i ≠ id → t.talk.dest i = s.talk.dest i)
        ∧ (∀ g, (t.link g).lasting = (s.link g).lasting) ∧ s.sameVenue t ∧ s.sameOutside t)
    ∧ (h = 255 ∨ h ≤ 159 ∧ (s.link h).state.occupied = true →
      ∃ t e, exec (.setWatch (.args ⟨id, h⟩)) s = .next t ∧ s.answeredOnly t 36 .ok .empty
        ∧ t.talk.dest id = some e ∧ e.watch = (if h = 255 then none else some h)
        ∧ e.target = d.target ∧ e.routed = s.routed id e ∧ e.restricted = s.restricted e
        ∧ e.requests = d.requests ∧ e.rings = d.rings
        ∧ (∀ i, i ≠ id → t.talk.dest i = s.talk.dest i)
        ∧ (∀ g, (t.link g).lasting = (s.link g).lasting) ∧ s.sameVenue t ∧ s.sameOutside t)

/-- SET LAST moves a key to the end of its ring and changes no key; the waiting list keeps its members, and
its order too unless the key waits with rotation on. CLEAR TALK makes every WAITING or TALKING key IDLE,
empties every list, keeps the rings, and owes, or begins, a ROUTE for each destination that talked (R151,
R153). -/
def Obligations.SetLastAndClearTalk : Prop :=
  (∀ (k : Nat) (x : Key) (d : Dest) (s : State), s.accepts → k ≤ 95 → s.talk.key k = some x →
    x.dest ≤ 31 → x.level ≤ 7 → s.talk.dest x.dest = some d →
    ∃ t e, exec (.setLast (.args k)) s = .next t ∧ s.answeredOnly t 38 .ok .empty
      ∧ t.talk.dest x.dest = some e ∧ e.ring x.level = (d.ring x.level).erase k ++ [k]
      ∧ (∀ l, l ≠ x.level → e.ring l = d.ring l)
      ∧ e.talking = d.talking ∧ e.requests = d.requests ∧ List.Perm e.waiting d.waiting
      ∧ (d.rotation = false ∨ x.state ≠ .waiting → e.waiting = d.waiting)
      ∧ t.talk.keys = s.talk.keys ∧ (∀ i, i ≠ x.dest → t.talk.dest i = s.talk.dest i)
      ∧ t.links = s.links ∧ t.engine = s.engine ∧ t.pool = s.pool ∧ t.plans = s.plans
      ∧ t.radio = s.radio ∧ t.mtx = s.mtx ∧ s.sameOutside t)
  ∧ (∀ s : State, s.accepts → s.quiet →
      ∃ t, exec (.clearTalk (.args ())) s = .next t ∧ s.answeredOnly t 39 .ok .empty
        ∧ (∀ k, t.talk.key k = (s.talk.key k).map fun x =>
            if x.state = .waiting ∨ x.state = .talking then { x with state := .idle, deadline := none }
            else x)
        ∧ (∀ id, t.talk.dest id = (s.talk.dest id).map fun d =>
            { d with talking := [], waiting := [], requests := [] })
        ∧ (∀ id d, id < 32 → s.talk.dest id = some d → d.talking ≠ [] →
            t.mtx.owed.get id false = true ∨ t.mtx.sending = some ⟨id, []⟩)
        ∧ (∀ h, (t.link h).lasting = (s.link h).lasting) ∧ s.sameVenue t ∧ s.sameOutside t)

/-- The events of a key's button, from a panel or a belt-pack: a press of an IDLE key is granted a free place,
pre-empts a talker, or waits; the talker is the one of the highest level number, the last granted of several,
where the mode of the destination lets the key pre-empt it, and a key that may not pre-empt that one may
pre-empt none; the key that waits, or the talker pre-empted, is put into the waiting list at its place in the
waiting order, by level and then by ring position with rotation on or by request order with rotation off; what
ends a wait or a talk leaves the key IDLE, and the end of a talk refills the destination; an ignored event
changes no key and no destination (R141 to R146, R152, R175, R177). -/
def Obligations.KeyEventsArbitrate : Prop :=
  ∀ (o : Origin) (k : Nat) (x : Key) (d : Dest) (s : State), s.live → s.quiet → s.talk.sound →
    s.hears o → s.talk.drives o k x → s.talk.dest x.dest = some d →
    (∀ v, s.talk.victim d k = some v → s.talk.isLeastUrgent d.talking v
      ∧ (d.mode = .level → x.level ≤ s.talk.level v) ∧ (d.mode ≠ .level → x.level < s.talk.level v))
    ∧ (s.talk.victim d k = none → ∀ v, v ∈ d.talking →
        (d.mode = .level → s.talk.level v < x.level) ∧ (d.mode ≠ .level → s.talk.level v ≤ x.level))
    ∧ (x.state = .idle → s.talk.eligible d k = true → d.talking.length < d.limit →
      ∃ t, exec (o.event true) s = .next t
        ∧ t.talk.key k = some { x with state := .talking, deadline :=
            if d.talkLimit = 0 then none else some (s.now + 1000 * d.talkLimit) }
        ∧ t.talk.dest x.dest = some { d with talking := d.talking ++ [k], requests := d.requests ++ [k] }
        ∧ s.talk.others t.talk k x.dest ∧ t.port = s.port ∧ s.sameOutside t
        ∧ (∀ h, (t.link h).lasting = (s.link h).lasting) ∧ t.plans = s.plans)
    ∧ (x.state = .idle → s.talk.eligible d k = false
        ∨ d.limit ≤ d.talking.length ∧ s.talk.victim d k = none →
      ∃ t e, exec (o.event true) s = .next t
        ∧ t.talk.key k = some { x with state := .waiting, deadline := none }
        ∧ t.talk.dest x.dest = some e ∧ k ∈ e.waiting ∧ e.waiting.erase k = d.waiting
        ∧ (s.talk.inOrder → e.waiting.Pairwise (t.talk.waitsBefore e)) ∧ e.talking = d.talking
        ∧ e.requests = d.requests ++ [k] ∧ e.rings = d.rings
        ∧ s.talk.others t.talk k x.dest ∧ t.port = s.port ∧ s.sameOutside t
        ∧ (∀ h, (t.link h).lasting = (s.link h).lasting) ∧ t.plans = s.plans)
    ∧ (∀ v, x.state = .idle → s.talk.eligible d k = true → d.limit ≤ d.talking.length →
        s.talk.victim d k = some v →
      ∃ t e, exec (o.event true) s = .next t
        ∧ (∃ y, t.talk.key k = some y ∧ y.state = .talking)
        ∧ (∃ y, t.talk.key v = some y ∧ y.state = .waiting ∧ y.deadline = none)
        ∧ t.talk.dest x.dest = some e ∧ e.talking = d.talking.erase v ++ [k] ∧ v ∈ e.waiting
        ∧ e.waiting.erase v = d.waiting
        ∧ (s.talk.inOrder → e.waiting.Pairwise (t.talk.waitsBefore e))
        ∧ e.requests = d.requests ++ [k] ∧ e.rings = d.rings
        ∧ (∀ j, j ≠ k → j ≠ v → t.talk.key j = s.talk.key j)
        ∧ (∀ i, i ≠ x.dest → t.talk.dest i = s.talk.dest i) ∧ t.port = s.port ∧ s.sameOutside t
        ∧ (∀ h, (t.link h).lasting = (s.link h).lasting) ∧ t.plans = s.plans)
    ∧ (∀ press, x.state = .waiting ∨ x.state = .talking → press = (x.type == .latch) →
      ∃ t e, exec (o.event press) s = .next t
        ∧ t.talk.key k = some { x with state := .idle, deadline := none }
        ∧ t.talk.dest x.dest = some e ∧ k ∉ e.talking ∧ k ∉ e.waiting
        ∧ e.requests = d.requests.erase k
        ∧ (x.state = .waiting → e = { d with
              waiting := d.waiting.erase k, requests := d.requests.erase k }
            ∧ ∀ j, j ≠ k → t.talk.key j = s.talk.key j)
        ∧ (x.state = .talking → s.talk.talkEnded t.talk s.now k x d)
        ∧ (∀ i, i ≠ x.dest → t.talk.dest i = s.talk.dest i) ∧ t.port = s.port ∧ s.sameOutside t
        ∧ (∀ h, (t.link h).lasting = (s.link h).lasting) ∧ t.plans = s.plans)
    ∧ (∀ press, x.state = .disabled ∨ x.state = .idle ∧ press = false
        ∨ (x.state = .waiting ∨ x.state = .talking) ∧ press = (x.type == .momentary) →
      ∃ t, exec (o.event press) s = .next t ∧ t.talk = s.talk ∧ t.port = s.port ∧ s.sameOutside t
        ∧ (∀ h, (t.link h).lasting = (s.link h).lasting) ∧ t.plans = s.plans)

/-- The expiry of a talk deadline ends the key's talk, turns its ring while rotation is on, refills the
destination with its first eligible waiting keys, each starting its deadline, and queues TALK_TIMEOUT (R143,
R146, R152).
That the timebase then stands at the deadline at least is the model's choice (log entry 1). -/
def Obligations.TalkDeadlineEnds : Prop :=
  ∀ (k deadline : Nat) (x : Key) (d : Dest) (s : State), s.pins.inReset = false → s.quiet →
    s.talk.sound → s.talk.key k = some x → x.state = .talking → x.deadline = some deadline →
    s.talk.dest x.dest = some d →
    ∃ t, exec (.talkDeadlineExpiry k) s = .next t
      ∧ s.talk.talkEnded t.talk t.now k x d
      ∧ (∀ e, t.talk.dest x.dest = some e → k ∉ e.talking ∧ k ∉ e.waiting)
      ∧ t.port = s.port.queue (.talkTimeout x.dest k x.origin) ∧ t.now = max s.now deadline
      ∧ (∀ h, (t.link h).lasting = (s.link h).lasting) ∧ t.plans = s.plans ∧ t.tally = s.tally

/-! ### Chapter 8: the frame plan -/

/-- STAGE DOWN, STAGE LISTEN and STAGE UP edit one entry of the Pending Plan, and are each BUSY in COMMIT_WAIT;
an entry left with an empty mask and no upstream slot is removed (R157, R159, R160). -/
def Obligations.StagingEditsPendingPlan : Prop :=
  (∀ (slot d : Nat) (s : State), s.accepts → slot ≤ 11 → d ≤ 31 ∨ d = 255 →
    (s.plans.state = .idle →
      exec (.stageDown (.args ⟨slot, d⟩)) s = .next (({ s with plans := { s.plans with
        pending := { s.plans.pending with
          down := s.plans.pending.down.set slot (if d = 255 then none else some d) } } }).respond
            42 .ok .empty))
    ∧ (s.plans.state = .commitWait →
      exec (.stageDown (.args ⟨slot, d⟩)) s = .next (s.respond 42 .busy .empty)))
  ∧ (∀ (h u : Nat) (m : BitVec 16) (s : State), s.accepts → h ≤ 159 → (s.link h).state ≠ .free →
      (s.link h).kind = some .beltpack → u ≤ 9 ∨ u = 255 →
      (s.plans.state = .commitWait →
        exec (.stageListen (.args ⟨h, m⟩)) s = .next (s.respond 43 .busy .empty)
        ∧ exec (.stageUp (.args ⟨h, u⟩)) s = .next (s.respond 44 .busy .empty))
      ∧ (s.plans.state = .idle → ∃ p q,
        exec (.stageListen (.args ⟨h, m⟩)) s
            = .next (({ s with plans := { s.plans with pending := p } }).respond 43 .ok .empty)
        ∧ exec (.stageUp (.args ⟨h, u⟩)) s
            = .next (({ s with plans := { s.plans with pending := q } }).respond 44 .ok .empty)
        ∧ p.down = s.plans.pending.down ∧ q.down = s.plans.pending.down
        ∧ (∀ e, e.handle ≠ h → (e ∈ p.packs ↔ e ∈ s.plans.pending.packs)
            ∧ (e ∈ q.packs ↔ e ∈ s.plans.pending.packs))
        ∧ (∀ e, e.handle = h → (e ∈ p.packs ↔
            e = ⟨h, m.setWidth 12, (s.plans.pending.pack h).up⟩ ∧ (e.listen ≠ 0 ∨ e.up.isSome = true)))
        ∧ (∀ e, e.handle = h → (e ∈ q.packs ↔
            e = ⟨h, (s.plans.pending.pack h).listen, if u = 255 then none else some u⟩
              ∧ (e.listen ≠ 0 ∨ e.up.isSome = true)))))

/-- COMMIT of a plan with no offence waits for the frame mark and answers with the number to come; one with
an offence is refused CONFLICT naming it, one that waits already BUSY. The offence named stands in the plan,
with what it names, and is the first: no earlier kind of offence stands in it, such as a repeated destination
before a pack in a wrong state, and none of its own kind at a lower slot or handle (R161).
DISCARD PLAN makes the Pending Plan a copy of the Active Plan and the plan state IDLE, in either plan state; a
frame mark that follows changes nothing (R164). -/
def Obligations.CommitAndDiscardPlan : Prop :=
  (∀ s : State, s.accepts →
    (s.plans.state = .commitWait → exec (.commit (.args ())) s = .next (s.respond 45 .busy .empty))
    ∧ (s.plans.state = .idle → s.offence s.plans.pending = none →
        exec (.commit (.args ())) s = .next (({ s with plans := { s.plans with
          state := .commitWait } }).respond 45 .ok (.planNumber (s.plans.number + 1))))
    ∧ (∀ x, s.plans.state = .idle → s.offence s.plans.pending = some x →
        exec (.commit (.args ())) s = .next (s.respond 45 .conflict (.offence x)))
    ∧ (∀ x, s.plans.pending.ordered → s.offence s.plans.pending = some x → s.offends s.plans.pending x)
    ∧ (s.offence s.plans.pending = none →
        (∀ i d, s.plans.pending.down.get i none = some d →
          (∃ e, s.talk.dest d = some e ∧ e.kind = .group)
          ∧ ∀ k, s.plans.pending.down.get k none = some d → k = i)
        ∧ (∀ e, e ∈ s.plans.pending.packs →
            (s.link e.handle).kind = some .beltpack ∧ (s.link e.handle).state.planEligible = true)
        ∧ s.plans.pending.packs.Pairwise fun e f => e.up = none ∨ e.up ≠ f.up))
  ∧ (∀ s : State, s.accepts →
    exec (.discardPlan (.args ())) s = .next (({ s with plans := { s.plans with
        pending := s.plans.active, state := .idle } }).respond 46 .ok .empty)
    ∧ ∀ t, exec (.discardPlan (.args ())) s = .next t → exec .frameMark t = .next t)

/-- A frame mark applies a waiting commit: the Active Plan becomes the Pending Plan, the number rises by one
and PLAN_APPLIED counts the slots and the packs; the PLAN is owed or begins; the keys of a pack that lost
its upstream slot talk and wait nowhere. In IDLE it changes nothing (R162, R163). -/
def Obligations.FrameMarkApplies : Prop :=
  ∀ s : State, s.live →
    (s.plans.state = .idle → exec .frameMark s = .next s)
    ∧ (s.plans.state = .commitWait → s.quiet → s.talk.sound →
      ∃ t, exec .frameMark s = .next t
        ∧ t.plans = ⟨s.plans.pending, s.plans.pending, .idle, s.plans.number + 1⟩
        ∧ t.port = s.port.queue (.planApplied (s.plans.number + 1)
            (s.plans.pending.down.rows.countP (·.isSome))
            (s.plans.pending.packs.countP fun e => e.up.isSome))
        ∧ (t.radio.planOwed = true ∨ t.radio.sending = some (.plan (s.plans.number + 1) s.plans.pending))
        ∧ (∀ k x h b, t.talk.key k = some x → x.origin = .pack h b → s.plans.active.hasUp h = true →
            s.plans.pending.hasUp h = false → x.state ≠ .waiting ∧ x.state ≠ .talking)
        ∧ (∀ id d, id < 32 → t.talk.dest id = some d → d.kind = .group →
            d.routed = s.plans.pending.names id)
        ∧ (∀ h, (t.link h).lasting = (s.link h).lasting)
        ∧ t.engine.queue = s.engine.queue ∧ s.sameOutside t)

/-! ### Chapter 9: the ports -/

/-- What begins when the rack may be sent to: a PLAN first; otherwise the order of the first record in the
scan with something to send, its TUNE or MUTE starting the timer, or its LAMP with the value of that event.
CTS asserted while a message leaves, and CTS withdrawn, begin nothing and leave that message. On MTX the first
destination in the scan that is owed a ROUTE gets it, with its talking keys and their origins (R170 to R172,
R178). The model's choices: that CTS_WITHDRAWN acts while RESET# is low too (log entries 3 and 13), and that a
TUNE of a record without a class, which no run reaches, carries class 0 (log entry 20). -/
def Obligations.TransmittersBegin : Prop :=
  (∀ (e : Instr) (s : State), s.pins.inReset = false → s.quiet →
    (e = .ctsAsserted ∧ s.radio.sending = none) ∨ (e = .radioMessageComplete ∧ s.radio.cts = true) →
    (s.radio.planOwed = true → ∃ t, exec e s = .next t
      ∧ t.radio.sending = some (.plan s.plans.number s.plans.active) ∧ t.radio.planOwed = false
      ∧ t.radio.scan = s.radio.scan ∧ t.radio.cts = true
      ∧ t.links = s.links ∧ t.port = s.port ∧ t.talk = s.talk)
    ∧ (∀ h, s.radio.planOwed = false → s.radio.scan < 160 → h < 160 → (s.link h).sendable = true →
        (∀ g, g < 160 → (g + 159 - s.radio.scan) % 160 < (h + 159 - s.radio.scan) % 160 →
          (s.link g).sendable = false) →
      ∃ t, exec e s = .next t ∧ t.radio.scan = h ∧ t.radio.cts = true ∧ (∀ g, g ≠ h → t.link g = s.link g)
        ∧ t.port = s.port ∧ t.talk = s.talk ∧ t.plans = s.plans
        ∧ (∀ f, (s.link h).order = some (.tune f) →
            t.radio.sending = some (.tune h f ((s.link h).cls.getD 0))
            ∧ t.link h = { s.link h with
                order := none, timer := some ⟨.settle, s.now + s.engine.prof.allowance⟩ })
        ∧ ((s.link h).order = some .mute →
            t.radio.sending = some (.mute h)
            ∧ t.link h = { s.link h with
                order := none, timer := some ⟨.release, s.now + s.engine.prof.allowance⟩ })
        ∧ ((s.link h).order = none →
            t.radio.sending = some (.lamp h (s.link h).lamp)
            ∧ t.link h = { s.link h with lampOwed := false, lastLamp := (s.link h).lamp }))
    ∧ (s.radio.planOwed = false → (∀ g, g < 160 → (s.link g).sendable = false) →
      ∃ t, exec e s = .next t ∧ t.radio = { s.radio with cts := true, sending := none }
        ∧ t.links = s.links))
  ∧ (∀ s : State, s.pins.inReset = false → s.quiet →
    (s.radio.sending.isSome = true → ∃ t, exec .ctsAsserted s = .next t
      ∧ t.radio = { s.radio with cts := true }
      ∧ t.links = s.links ∧ t.port = s.port ∧ t.talk = s.talk)
    ∧ (s.radio.cts = false → ∃ t, exec .radioMessageComplete s = .next t
      ∧ t.radio = { s.radio with sending := none }
      ∧ t.links = s.links ∧ t.port = s.port ∧ t.talk = s.talk))
  ∧ (∀ s : State, exec .ctsWithdrawn s = .next { s with radio := { s.radio with cts := false } })
  ∧ (∀ s : State, s.pins.inReset = false → s.quiet → s.radioHeld →
    (∀ id, s.mtx.scan < 32 → id < 32 → s.mtx.owed.get id false = true →
        (∀ i, i < 32 → (i + 31 - s.mtx.scan) % 32 < (id + 31 - s.mtx.scan) % 32 →
          s.mtx.owed.get i false = false) →
      ∃ t r, exec .routeComplete s = .next t ∧ t.mtx.sending = some r ∧ r.dest = id
        ∧ t.mtx.scan = id ∧ t.mtx.owed = s.mtx.owed.set id false
        ∧ (∀ d, s.talk.dest id = some d → (∀ k, k ∈ d.talking → (s.talk.key k).isSome = true) →
            r.keys.map (·.1) = d.talking)
        ∧ (∀ k o, (k, o) ∈ r.keys → ∃ y, s.talk.key k = some y ∧ y.origin = o)
        ∧ (s.talk.dest id = none → r.keys = [])
        ∧ t.links = s.links ∧ t.talk = s.talk ∧ t.port = s.port)
    ∧ ((∀ i, i < 32 → s.mtx.owed.get i false = false) →
      ∃ t, exec .routeComplete s = .next t ∧ t.mtx = { s.mtx with sending := none }
        ∧ t.links = s.links ∧ t.talk = s.talk ∧ t.port = s.port))

/-- A malformed report, event or frame, one with a field out of range, for a FREE record or from an absent
source, and a message of a type the line does not receive are discarded; so are a KEY of a link that is no
BELTPACK or has no upstream slot in the Active Plan, a tally frame with a count above 48, and, changing
nothing, a key event whose origin names no defined key. A receive timeout drops the bytes received, with no
effect on anything else. CARRIER LOSS sets signal-lost and queues CARRIER_LOSS with the state and the carriers
held, in whatever state the record is, and CARRIER BACK clears the flag and queues nothing (R27, R142, R174,
R175, R177, R193). -/
def Obligations.ReceiversAndCarrierReports : Prop :=
  (∀ s : State, s.pins.inReset = false → ∀ h n v : Nat,
    (∀ c, c ∈ [Instr.tuned .badLength, .tuned .badSum, .muted .badLength, .muted .badSum,
        .interference .badLength, .interference .badSum, .carrierLoss .badLength, .carrierLoss .badSum,
        .carrierBack .badLength, .carrierBack .badSum, .key .badLength, .key .badSum] →
      exec c s = .next { s with radio := { s.radio with received := [] } })
    ∧ (159 < h ∨ (s.link h).state = .free →
      ∀ c, c ∈ [Instr.tuned (.fields ⟨h, n⟩), .muted (.fields h), .interference (.fields ⟨h, n⟩),
          .carrierLoss (.fields h), .carrierBack (.fields h), .key (.fields ⟨h, n, v⟩)] →
        exec c s = .next { s with radio := { s.radio with received := [] } })
    ∧ (108000 < n →
      exec (.tuned (.fields ⟨h, n⟩)) s = .next { s with radio := { s.radio with received := [] } })
    ∧ (3 < n ∨ 1 < v ∨ (s.link h).kind ≠ some .beltpack
        ∨ (∀ e, e ∈ s.plans.active.packs → e.handle = h → e.up = none)
        ∨ (∀ k x, s.talk.key k = some x → x.origin ≠ .pack h n) →
      exec (.key (.fields ⟨h, n, v⟩)) s = .next { s with radio := { s.radio with received := [] } }))
  ∧ (∀ s : State, s.pins.inReset = false →
    exec .radioReceiveTimeout s = .next { s with radio := { s.radio with received := [] } }
    ∧ (∀ n, exec (.radioUnknownReportType n) s = .next { s with radio := { s.radio with received := [] } })
    ∧ exec .matrixReceiveTimeout s = .next { s with mtx := { s.mtx with received := [] } }
    ∧ (∀ n, exec (.matrixUnknownEventType n) s = .next { s with mtx := { s.mtx with received := [] } })
    ∧ (∀ p b c, c ∈ [Instr.press .badLength, .press .badSum, .release .badLength, .release .badSum]
        ∨ (63 < p ∨ 7 < b ∨ ∀ k x, s.talk.key k = some x → x.origin ≠ .panel p b)
          ∧ c ∈ [Instr.press (.fields ⟨p, b⟩), .release (.fields ⟨p, b⟩)] →
      exec c s = .next { s with mtx := { s.mtx with received := [] } })
    ∧ (∀ x, ∃ l, exec (.tallyReceiveTimeout x) s = .next { s with lines := l }
        ∧ (∀ n, exec (.tallyUnknownMessageType x n) s = .next { s with lines := l })
        ∧ (∀ a c, c = Instr.tallyFrame x .badLength ∨ c = .tallyFrame x .badSum
            ∨ (s.tally.present x = false ∨ 48 < a.program.length ∨ 48 < a.preview.length)
              ∧ c = .tallyFrame x (.fields a) →
          exec c s = .next { s with lines := l })
        ∧ (x = .main → l = { s.lines with line0 := [] }) ∧ (x = .sub1 → l = { s.lines with line1 := [] })
        ∧ (x = .sub2 → l = { s.lines with line2 := [] })))
  ∧ (∀ (h : Nat) (s : State), s.live → h ≤ 159 → (s.link h).state ≠ .free →
    exec (.carrierLoss (.fields h)) s = .next { s with
        radio := { s.radio with received := [] }
        links := s.links.set h { s.link h with signalLost := true }
        port := s.port.queue (.carrierLoss h (s.link h).state (s.link h).held) }
    ∧ exec (.carrierBack (.fields h)) s = .next { s with
        radio := { s.radio with received := [] }
        links := s.links.set h { s.link h with signalLost := false } })

/-! ### What every step keeps -/

/-- Whatever may begin begins in the event that makes it possible: every step keeps the engine, the Radio
Port and the Matrix Port settled (R42, R43, R170, R178). -/
def Obligations.StepKeepsSettled : Prop :=
  ∀ s t : State, s.settled → step s = .next t → t.settled

/-- Every step keeps at most 16 notices and 12 jobs, and what a collect presents where it was chosen: no
notice is presented while a response is owed (R40, R186). -/
def Obligations.StepKeepsQueuesAndPort : Prop :=
  ∀ s t : State, s.bounded → s.portSound → step s = .next t → t.bounded ∧ t.portSound

/-- Every step keeps the steps of the spares distinct (R91). -/
def Obligations.StepKeepsSparesDistinct : Prop :=
  ∀ s t : State, s.pool.distinct → step s = .next t → t.pool.distinct

/-- Every step keeps the talk lists in agreement with the keys: the talking keys within the limit, each list
of the destination's own keys, no key both talking and waiting; and with them the orders: the request order
holds the keys of both lists, each ring every defined key of its level, each once, and the waiting list stands
in the waiting order (R131, R134, R141). -/
def Obligations.StepKeepsTalkLists : Prop :=
  ∀ s t : State, s.talk.sound → step s = .next t →
    t.talk.sound ∧ (s.talk.inOrder → t.talk.inOrder)

/-- Every step keeps every destination standing as computed, its talkers eligible, and no eligible key
waiting at a free place (R139, R140, R143). -/
def Obligations.StepKeepsStanding : Prop :=
  ∀ s t : State, s.stands → step s = .next t → t.stands

/-- Every step keeps the Active Plan, and a plan that waits for a frame mark, without offence (R157, R161). -/
def Obligations.StepKeepsPlansSound : Prop :=
  ∀ s t : State, s.plansSound → step s = .next t → t.plansSound

/-- The occupied set has the three properties of R64 right after a reset, and every step keeps them, with
what they rest on: jobs fit their links, and the running job's occupied set covers every carrier held. -/
def Obligations.StepKeepsOccupiedSetProtected : Prop :=
  State.reset.coordinated ∧ ∀ s t : State, s.coordinated → step s = .next t → t.coordinated
end

