-- ==== Sys2Proof/Laws/State.lean ====
section
/-! SUPPORT. One lemma per field per named update of the state, and the laws of the fixed-size tables. -/

namespace Sys2Proof

/-! ### Tables -/

variable {n : Nat} {α β : Type}

theorem Tab.ext_rows {t u : Tab n α} (h : t.rows = u.rows) : t = u := by
  cases t; cases u; simp only at h; subst h; rfl

@[simp] theorem Tab.get_fill (i : Nat) (x : α) : (Tab.fill n x).get i x = x := by
  simp only [Tab.get, Tab.fill, List.getD_eq_getElem?_getD, List.getElem?_replicate]
  split <;> rfl

theorem Tab.get_fill_lt {i : Nat} (x d : α) (h : i < n) : (Tab.fill n x).get i d = x := by
  simp [Tab.get, Tab.fill, List.getD_eq_getElem?_getD, h]

@[simp] theorem Tab.get_set_same (t : Tab n α) {i : Nat} (x d : α) (h : i < n) :
    (t.set i x).get i d = x := by
  have : i < t.rows.length := t.size.symm ▸ h
  simp [Tab.get, Tab.set, List.getD_eq_getElem?_getD, this]

@[simp] theorem Tab.get_set_other (t : Tab n α) {i j : Nat} (x d : α) (h : j ≠ i) :
    (t.set i x).get j d = t.get j d := by
  simp [Tab.get, Tab.set, List.getD_eq_getElem?_getD, List.getElem?_set_ne (Ne.symm h)]

theorem Tab.get_set (t : Tab n α) (i j : Nat) (x d : α) :
    (t.set i x).get j d = if j = i ∧ i < n then x else t.get j d := by
  by_cases h : j = i
  · subst h
    by_cases hi : j < n
    · simp [hi]
    · have : t.rows.length ≤ j := t.size.symm ▸ Nat.le_of_not_lt hi
      simp [Tab.get, Tab.set, List.getD_eq_getElem?_getD, hi, this]
  · simp [h]

theorem Tab.get_mapIdx (f : Nat → α → β) (t : Tab n α) (i : Nat) (d : α) (e : β) :
    (t.mapIdx f).get i e = if i < n then f i (t.get i d) else e := by
  have hs := t.size
  simp only [Tab.get, Tab.mapIdx, List.getD_eq_getElem?_getD, List.getElem?_mapIdx]
  by_cases h : i < n
  · have hi : i < t.rows.length := hs.symm ▸ h
    simp [h, List.getElem?_eq_getElem hi]
  · have hi : t.rows.length ≤ i := hs.symm ▸ Nat.le_of_not_lt h
    simp [h, List.getElem?_eq_none hi]

theorem Tab.get_out (t : Tab n α) {i : Nat} (d : α) (h : n ≤ i) : t.get i d = d := by
  have hi : t.rows.length ≤ i := t.size.symm ▸ h
  simp [Tab.get, List.getD_eq_getElem?_getD, List.getElem?_eq_none hi]

theorem Tab.set_out (t : Tab n α) {i : Nat} (x : α) (h : n ≤ i) : t.set i x = t := by
  apply Tab.ext_rows
  have hi : t.rows.length ≤ i := t.size.symm ▸ h
  simp [Tab.set, List.set_eq_of_length_le hi]

theorem Tab.ext_get {t u : Tab n α} (d : α) (h : ∀ i, i < n → t.get i d = u.get i d) : t = u := by
  apply Tab.ext_rows
  apply List.ext_getElem
  · rw [t.size, u.size]
  · intro i h1 h2
    have := h i (t.size ▸ h1)
    simpa [Tab.get, List.getD_eq_getElem?_getD, List.getElem?_eq_getElem h1,
      List.getElem?_eq_getElem h2] using this

end Sys2Proof

namespace Sys2Proof.Machine

open Sys2Proof

/-! ### The named updates -/
@[simp] theorem State.setLinks_links (s : State) (x : Tab 160 Link) : (s.setLinks x).links = x := rfl
@[simp] theorem State.setLinks_engine (s : State) (x : Tab 160 Link) : (s.setLinks x).engine = s.engine := rfl
@[simp] theorem State.setLinks_pool (s : State) (x : Tab 160 Link) : (s.setLinks x).pool = s.pool := rfl
@[simp] theorem State.setLinks_tally (s : State) (x : Tab 160 Link) : (s.setLinks x).tally = s.tally := rfl
@[simp] theorem State.setLinks_talk (s : State) (x : Tab 160 Link) : (s.setLinks x).talk = s.talk := rfl
@[simp] theorem State.setLinks_plans (s : State) (x : Tab 160 Link) : (s.setLinks x).plans = s.plans := rfl
@[simp] theorem State.setLinks_radio (s : State) (x : Tab 160 Link) : (s.setLinks x).radio = s.radio := rfl
@[simp] theorem State.setLinks_mtx (s : State) (x : Tab 160 Link) : (s.setLinks x).mtx = s.mtx := rfl
@[simp] theorem State.setLinks_port (s : State) (x : Tab 160 Link) : (s.setLinks x).port = s.port := rfl
@[simp] theorem State.setLinks_lines (s : State) (x : Tab 160 Link) : (s.setLinks x).lines = s.lines := rfl
@[simp] theorem State.setLinks_pins (s : State) (x : Tab 160 Link) : (s.setLinks x).pins = s.pins := rfl
@[simp] theorem State.setLinks_now (s : State) (x : Tab 160 Link) : (s.setLinks x).now = s.now := rfl
@[simp] theorem State.setLinks_pending (s : State) (x : Tab 160 Link) : (s.setLinks x).pending = s.pending := rfl
@[simp] theorem State.setEngine_links (s : State) (x : Engine) : (s.setEngine x).links = s.links := rfl
@[simp] theorem State.setEngine_engine (s : State) (x : Engine) : (s.setEngine x).engine = x := rfl
@[simp] theorem State.setEngine_pool (s : State) (x : Engine) : (s.setEngine x).pool = s.pool := rfl
@[simp] theorem State.setEngine_tally (s : State) (x : Engine) : (s.setEngine x).tally = s.tally := rfl
@[simp] theorem State.setEngine_talk (s : State) (x : Engine) : (s.setEngine x).talk = s.talk := rfl
@[simp] theorem State.setEngine_plans (s : State) (x : Engine) : (s.setEngine x).plans = s.plans := rfl
@[simp] theorem State.setEngine_radio (s : State) (x : Engine) : (s.setEngine x).radio = s.radio := rfl
@[simp] theorem State.setEngine_mtx (s : State) (x : Engine) : (s.setEngine x).mtx = s.mtx := rfl
@[simp] theorem State.setEngine_port (s : State) (x : Engine) : (s.setEngine x).port = s.port := rfl
@[simp] theorem State.setEngine_lines (s : State) (x : Engine) : (s.setEngine x).lines = s.lines := rfl
@[simp] theorem State.setEngine_pins (s : State) (x : Engine) : (s.setEngine x).pins = s.pins := rfl
@[simp] theorem State.setEngine_now (s : State) (x : Engine) : (s.setEngine x).now = s.now := rfl
@[simp] theorem State.setEngine_pending (s : State) (x : Engine) : (s.setEngine x).pending = s.pending := rfl
@[simp] theorem State.setPool_links (s : State) (x : Pool) : (s.setPool x).links = s.links := rfl
@[simp] theorem State.setPool_engine (s : State) (x : Pool) : (s.setPool x).engine = s.engine := rfl
@[simp] theorem State.setPool_pool (s : State) (x : Pool) : (s.setPool x).pool = x := rfl
@[simp] theorem State.setPool_tally (s : State) (x : Pool) : (s.setPool x).tally = s.tally := rfl
@[simp] theorem State.setPool_talk (s : State) (x : Pool) : (s.setPool x).talk = s.talk := rfl
@[simp] theorem State.setPool_plans (s : State) (x : Pool) : (s.setPool x).plans = s.plans := rfl
@[simp] theorem State.setPool_radio (s : State) (x : Pool) : (s.setPool x).radio = s.radio := rfl
@[simp] theorem State.setPool_mtx (s : State) (x : Pool) : (s.setPool x).mtx = s.mtx := rfl
@[simp] theorem State.setPool_port (s : State) (x : Pool) : (s.setPool x).port = s.port := rfl
@[simp] theorem State.setPool_lines (s : State) (x : Pool) : (s.setPool x).lines = s.lines := rfl
@[simp] theorem State.setPool_pins (s : State) (x : Pool) : (s.setPool x).pins = s.pins := rfl
@[simp] theorem State.setPool_now (s : State) (x : Pool) : (s.setPool x).now = s.now := rfl
@[simp] theorem State.setPool_pending (s : State) (x : Pool) : (s.setPool x).pending = s.pending := rfl
@[simp] theorem State.setTally_links (s : State) (x : TallyBlock) : (s.setTally x).links = s.links := rfl
@[simp] theorem State.setTally_engine (s : State) (x : TallyBlock) : (s.setTally x).engine = s.engine := rfl
@[simp] theorem State.setTally_pool (s : State) (x : TallyBlock) : (s.setTally x).pool = s.pool := rfl
@[simp] theorem State.setTally_tally (s : State) (x : TallyBlock) : (s.setTally x).tally = x := rfl
@[simp] theorem State.setTally_talk (s : State) (x : TallyBlock) : (s.setTally x).talk = s.talk := rfl
@[simp] theorem State.setTally_plans (s : State) (x : TallyBlock) : (s.setTally x).plans = s.plans := rfl
@[simp] theorem State.setTally_radio (s : State) (x : TallyBlock) : (s.setTally x).radio = s.radio := rfl
@[simp] theorem State.setTally_mtx (s : State) (x : TallyBlock) : (s.setTally x).mtx = s.mtx := rfl
@[simp] theorem State.setTally_port (s : State) (x : TallyBlock) : (s.setTally x).port = s.port := rfl
@[simp] theorem State.setTally_lines (s : State) (x : TallyBlock) : (s.setTally x).lines = s.lines := rfl
@[simp] theorem State.setTally_pins (s : State) (x : TallyBlock) : (s.setTally x).pins = s.pins := rfl
@[simp] theorem State.setTally_now (s : State) (x : TallyBlock) : (s.setTally x).now = s.now := rfl
@[simp] theorem State.setTally_pending (s : State) (x : TallyBlock) : (s.setTally x).pending = s.pending := rfl
@[simp] theorem State.setTalk_links (s : State) (x : Talk) : (s.setTalk x).links = s.links := rfl
@[simp] theorem State.setTalk_engine (s : State) (x : Talk) : (s.setTalk x).engine = s.engine := rfl
@[simp] theorem State.setTalk_pool (s : State) (x : Talk) : (s.setTalk x).pool = s.pool := rfl
@[simp] theorem State.setTalk_tally (s : State) (x : Talk) : (s.setTalk x).tally = s.tally := rfl
@[simp] theorem State.setTalk_talk (s : State) (x : Talk) : (s.setTalk x).talk = x := rfl
@[simp] theorem State.setTalk_plans (s : State) (x : Talk) : (s.setTalk x).plans = s.plans := rfl
@[simp] theorem State.setTalk_radio (s : State) (x : Talk) : (s.setTalk x).radio = s.radio := rfl
@[simp] theorem State.setTalk_mtx (s : State) (x : Talk) : (s.setTalk x).mtx = s.mtx := rfl
@[simp] theorem State.setTalk_port (s : State) (x : Talk) : (s.setTalk x).port = s.port := rfl
@[simp] theorem State.setTalk_lines (s : State) (x : Talk) : (s.setTalk x).lines = s.lines := rfl
@[simp] theorem State.setTalk_pins (s : State) (x : Talk) : (s.setTalk x).pins = s.pins := rfl
@[simp] theorem State.setTalk_now (s : State) (x : Talk) : (s.setTalk x).now = s.now := rfl
@[simp] theorem State.setTalk_pending (s : State) (x : Talk) : (s.setTalk x).pending = s.pending := rfl
@[simp] theorem State.setPlans_links (s : State) (x : Plans) : (s.setPlans x).links = s.links := rfl
@[simp] theorem State.setPlans_engine (s : State) (x : Plans) : (s.setPlans x).engine = s.engine := rfl
@[simp] theorem State.setPlans_pool (s : State) (x : Plans) : (s.setPlans x).pool = s.pool := rfl
@[simp] theorem State.setPlans_tally (s : State) (x : Plans) : (s.setPlans x).tally = s.tally := rfl
@[simp] theorem State.setPlans_talk (s : State) (x : Plans) : (s.setPlans x).talk = s.talk := rfl
@[simp] theorem State.setPlans_plans (s : State) (x : Plans) : (s.setPlans x).plans = x := rfl
@[simp] theorem State.setPlans_radio (s : State) (x : Plans) : (s.setPlans x).radio = s.radio := rfl
@[simp] theorem State.setPlans_mtx (s : State) (x : Plans) : (s.setPlans x).mtx = s.mtx := rfl
@[simp] theorem State.setPlans_port (s : State) (x : Plans) : (s.setPlans x).port = s.port := rfl
@[simp] theorem State.setPlans_lines (s : State) (x : Plans) : (s.setPlans x).lines = s.lines := rfl
@[simp] theorem State.setPlans_pins (s : State) (x : Plans) : (s.setPlans x).pins = s.pins := rfl
@[simp] theorem State.setPlans_now (s : State) (x : Plans) : (s.setPlans x).now = s.now := rfl
@[simp] theorem State.setPlans_pending (s : State) (x : Plans) : (s.setPlans x).pending = s.pending := rfl
@[simp] theorem State.setRadio_links (s : State) (x : Radio) : (s.setRadio x).links = s.links := rfl
@[simp] theorem State.setRadio_engine (s : State) (x : Radio) : (s.setRadio x).engine = s.engine := rfl
@[simp] theorem State.setRadio_pool (s : State) (x : Radio) : (s.setRadio x).pool = s.pool := rfl
@[simp] theorem State.setRadio_tally (s : State) (x : Radio) : (s.setRadio x).tally = s.tally := rfl
@[simp] theorem State.setRadio_talk (s : State) (x : Radio) : (s.setRadio x).talk = s.talk := rfl
@[simp] theorem State.setRadio_plans (s : State) (x : Radio) : (s.setRadio x).plans = s.plans := rfl
@[simp] theorem State.setRadio_radio (s : State) (x : Radio) : (s.setRadio x).radio = x := rfl
@[simp] theorem State.setRadio_mtx (s : State) (x : Radio) : (s.setRadio x).mtx = s.mtx := rfl
@[simp] theorem State.setRadio_port (s : State) (x : Radio) : (s.setRadio x).port = s.port := rfl
@[simp] theorem State.setRadio_lines (s : State) (x : Radio) : (s.setRadio x).lines = s.lines := rfl
@[simp] theorem State.setRadio_pins (s : State) (x : Radio) : (s.setRadio x).pins = s.pins := rfl
@[simp] theorem State.setRadio_now (s : State) (x : Radio) : (s.setRadio x).now = s.now := rfl
@[simp] theorem State.setRadio_pending (s : State) (x : Radio) : (s.setRadio x).pending = s.pending := rfl
@[simp] theorem State.setMtx_links (s : State) (x : Matrix) : (s.setMtx x).links = s.links := rfl
@[simp] theorem State.setMtx_engine (s : State) (x : Matrix) : (s.setMtx x).engine = s.engine := rfl
@[simp] theorem State.setMtx_pool (s : State) (x : Matrix) : (s.setMtx x).pool = s.pool := rfl
@[simp] theorem State.setMtx_tally (s : State) (x : Matrix) : (s.setMtx x).tally = s.tally := rfl
@[simp] theorem State.setMtx_talk (s : State) (x : Matrix) : (s.setMtx x).talk = s.talk := rfl
@[simp] theorem State.setMtx_plans (s : State) (x : Matrix) : (s.setMtx x).plans = s.plans := rfl
@[simp] theorem State.setMtx_radio (s : State) (x : Matrix) : (s.setMtx x).radio = s.radio := rfl
@[simp] theorem State.setMtx_mtx (s : State) (x : Matrix) : (s.setMtx x).mtx = x := rfl
@[simp] theorem State.setMtx_port (s : State) (x : Matrix) : (s.setMtx x).port = s.port := rfl
@[simp] theorem State.setMtx_lines (s : State) (x : Matrix) : (s.setMtx x).lines = s.lines := rfl
@[simp] theorem State.setMtx_pins (s : State) (x : Matrix) : (s.setMtx x).pins = s.pins := rfl
@[simp] theorem State.setMtx_now (s : State) (x : Matrix) : (s.setMtx x).now = s.now := rfl
@[simp] theorem State.setMtx_pending (s : State) (x : Matrix) : (s.setMtx x).pending = s.pending := rfl
@[simp] theorem State.setPort_links (s : State) (x : Port) : (s.setPort x).links = s.links := rfl
@[simp] theorem State.setPort_engine (s : State) (x : Port) : (s.setPort x).engine = s.engine := rfl
@[simp] theorem State.setPort_pool (s : State) (x : Port) : (s.setPort x).pool = s.pool := rfl
@[simp] theorem State.setPort_tally (s : State) (x : Port) : (s.setPort x).tally = s.tally := rfl
@[simp] theorem State.setPort_talk (s : State) (x : Port) : (s.setPort x).talk = s.talk := rfl
@[simp] theorem State.setPort_plans (s : State) (x : Port) : (s.setPort x).plans = s.plans := rfl
@[simp] theorem State.setPort_radio (s : State) (x : Port) : (s.setPort x).radio = s.radio := rfl
@[simp] theorem State.setPort_mtx (s : State) (x : Port) : (s.setPort x).mtx = s.mtx := rfl
@[simp] theorem State.setPort_port (s : State) (x : Port) : (s.setPort x).port = x := rfl
@[simp] theorem State.setPort_lines (s : State) (x : Port) : (s.setPort x).lines = s.lines := rfl
@[simp] theorem State.setPort_pins (s : State) (x : Port) : (s.setPort x).pins = s.pins := rfl
@[simp] theorem State.setPort_now (s : State) (x : Port) : (s.setPort x).now = s.now := rfl
@[simp] theorem State.setPort_pending (s : State) (x : Port) : (s.setPort x).pending = s.pending := rfl
@[simp] theorem State.setLines_links (s : State) (x : TallyLines) : (s.setLines x).links = s.links := rfl
@[simp] theorem State.setLines_engine (s : State) (x : TallyLines) : (s.setLines x).engine = s.engine := rfl
@[simp] theorem State.setLines_pool (s : State) (x : TallyLines) : (s.setLines x).pool = s.pool := rfl
@[simp] theorem State.setLines_tally (s : State) (x : TallyLines) : (s.setLines x).tally = s.tally := rfl
@[simp] theorem State.setLines_talk (s : State) (x : TallyLines) : (s.setLines x).talk = s.talk := rfl
@[simp] theorem State.setLines_plans (s : State) (x : TallyLines) : (s.setLines x).plans = s.plans := rfl
@[simp] theorem State.setLines_radio (s : State) (x : TallyLines) : (s.setLines x).radio = s.radio := rfl
@[simp] theorem State.setLines_mtx (s : State) (x : TallyLines) : (s.setLines x).mtx = s.mtx := rfl
@[simp] theorem State.setLines_port (s : State) (x : TallyLines) : (s.setLines x).port = s.port := rfl
@[simp] theorem State.setLines_lines (s : State) (x : TallyLines) : (s.setLines x).lines = x := rfl
@[simp] theorem State.setLines_pins (s : State) (x : TallyLines) : (s.setLines x).pins = s.pins := rfl
@[simp] theorem State.setLines_now (s : State) (x : TallyLines) : (s.setLines x).now = s.now := rfl
@[simp] theorem State.setLines_pending (s : State) (x : TallyLines) : (s.setLines x).pending = s.pending := rfl
@[simp] theorem State.setPins_links (s : State) (x : Pins) : (s.setPins x).links = s.links := rfl
@[simp] theorem State.setPins_engine (s : State) (x : Pins) : (s.setPins x).engine = s.engine := rfl
@[simp] theorem State.setPins_pool (s : State) (x : Pins) : (s.setPins x).pool = s.pool := rfl
@[simp] theorem State.setPins_tally (s : State) (x : Pins) : (s.setPins x).tally = s.tally := rfl
@[simp] theorem State.setPins_talk (s : State) (x : Pins) : (s.setPins x).talk = s.talk := rfl
@[simp] theorem State.setPins_plans (s : State) (x : Pins) : (s.setPins x).plans = s.plans := rfl
@[simp] theorem State.setPins_radio (s : State) (x : Pins) : (s.setPins x).radio = s.radio := rfl
@[simp] theorem State.setPins_mtx (s : State) (x : Pins) : (s.setPins x).mtx = s.mtx := rfl
@[simp] theorem State.setPins_port (s : State) (x : Pins) : (s.setPins x).port = s.port := rfl
@[simp] theorem State.setPins_lines (s : State) (x : Pins) : (s.setPins x).lines = s.lines := rfl
@[simp] theorem State.setPins_pins (s : State) (x : Pins) : (s.setPins x).pins = x := rfl
@[simp] theorem State.setPins_now (s : State) (x : Pins) : (s.setPins x).now = s.now := rfl
@[simp] theorem State.setPins_pending (s : State) (x : Pins) : (s.setPins x).pending = s.pending := rfl
@[simp] theorem State.setNow_links (s : State) (x : Nat) : (s.setNow x).links = s.links := rfl
@[simp] theorem State.setNow_engine (s : State) (x : Nat) : (s.setNow x).engine = s.engine := rfl
@[simp] theorem State.setNow_pool (s : State) (x : Nat) : (s.setNow x).pool = s.pool := rfl
@[simp] theorem State.setNow_tally (s : State) (x : Nat) : (s.setNow x).tally = s.tally := rfl
@[simp] theorem State.setNow_talk (s : State) (x : Nat) : (s.setNow x).talk = s.talk := rfl
@[simp] theorem State.setNow_plans (s : State) (x : Nat) : (s.setNow x).plans = s.plans := rfl
@[simp] theorem State.setNow_radio (s : State) (x : Nat) : (s.setNow x).radio = s.radio := rfl
@[simp] theorem State.setNow_mtx (s : State) (x : Nat) : (s.setNow x).mtx = s.mtx := rfl
@[simp] theorem State.setNow_port (s : State) (x : Nat) : (s.setNow x).port = s.port := rfl
@[simp] theorem State.setNow_lines (s : State) (x : Nat) : (s.setNow x).lines = s.lines := rfl
@[simp] theorem State.setNow_pins (s : State) (x : Nat) : (s.setNow x).pins = s.pins := rfl
@[simp] theorem State.setNow_now (s : State) (x : Nat) : (s.setNow x).now = x := rfl
@[simp] theorem State.setNow_pending (s : State) (x : Nat) : (s.setNow x).pending = s.pending := rfl
@[simp] theorem State.setPending_links (s : State) (x : List Instr) : (s.setPending x).links = s.links := rfl
@[simp] theorem State.setPending_engine (s : State) (x : List Instr) : (s.setPending x).engine = s.engine := rfl
@[simp] theorem State.setPending_pool (s : State) (x : List Instr) : (s.setPending x).pool = s.pool := rfl
@[simp] theorem State.setPending_tally (s : State) (x : List Instr) : (s.setPending x).tally = s.tally := rfl
@[simp] theorem State.setPending_talk (s : State) (x : List Instr) : (s.setPending x).talk = s.talk := rfl
@[simp] theorem State.setPending_plans (s : State) (x : List Instr) : (s.setPending x).plans = s.plans := rfl
@[simp] theorem State.setPending_radio (s : State) (x : List Instr) : (s.setPending x).radio = s.radio := rfl
@[simp] theorem State.setPending_mtx (s : State) (x : List Instr) : (s.setPending x).mtx = s.mtx := rfl
@[simp] theorem State.setPending_port (s : State) (x : List Instr) : (s.setPending x).port = s.port := rfl
@[simp] theorem State.setPending_lines (s : State) (x : List Instr) : (s.setPending x).lines = s.lines := rfl
@[simp] theorem State.setPending_pins (s : State) (x : List Instr) : (s.setPending x).pins = s.pins := rfl
@[simp] theorem State.setPending_now (s : State) (x : List Instr) : (s.setPending x).now = s.now := rfl
@[simp] theorem State.setPending_pending (s : State) (x : List Instr) : (s.setPending x).pending = x := rfl

/-! ### Link records -/

@[simp] theorem State.link_setLink_same (s : State) {h : Nat} (l : Link) (hh : h < 160) :
    (s.setLink h l).link h = l := by simp [State.link, State.setLink, hh]

@[simp] theorem State.link_setLink_other (s : State) {h g : Nat} (l : Link) (hg : g ≠ h) :
    (s.setLink h l).link g = s.link g := by simp [State.link, State.setLink, hg]

theorem State.link_setLink (s : State) (h g : Nat) (l : Link) :
    (s.setLink h l).link g = if g = h ∧ h < 160 then l else s.link g := by
  simp [State.link, State.setLink, Tab.get_set]

theorem State.setLink_out (s : State) {h : Nat} (l : Link) (hh : 160 ≤ h) : s.setLink h l = s := by
  simp only [State.setLink, Tab.set_out s.links l hh]; rfl

theorem State.link_out (s : State) {h : Nat} (hh : 160 ≤ h) : s.link h = Link.free := by
  simp [State.link, Tab.get_out s.links Link.free hh]
@[simp] theorem State.setLink_engine (s : State) (h : Nat) (l : Link) : (s.setLink h l).engine = s.engine := rfl
@[simp] theorem State.setLink_pool (s : State) (h : Nat) (l : Link) : (s.setLink h l).pool = s.pool := rfl
@[simp] theorem State.setLink_tally (s : State) (h : Nat) (l : Link) : (s.setLink h l).tally = s.tally := rfl
@[simp] theorem State.setLink_talk (s : State) (h : Nat) (l : Link) : (s.setLink h l).talk = s.talk := rfl
@[simp] theorem State.setLink_plans (s : State) (h : Nat) (l : Link) : (s.setLink h l).plans = s.plans := rfl
@[simp] theorem State.setLink_radio (s : State) (h : Nat) (l : Link) : (s.setLink h l).radio = s.radio := rfl
@[simp] theorem State.setLink_mtx (s : State) (h : Nat) (l : Link) : (s.setLink h l).mtx = s.mtx := rfl
@[simp] theorem State.setLink_port (s : State) (h : Nat) (l : Link) : (s.setLink h l).port = s.port := rfl
@[simp] theorem State.setLink_lines (s : State) (h : Nat) (l : Link) : (s.setLink h l).lines = s.lines := rfl
@[simp] theorem State.setLink_pins (s : State) (h : Nat) (l : Link) : (s.setLink h l).pins = s.pins := rfl
@[simp] theorem State.setLink_now (s : State) (h : Nat) (l : Link) : (s.setLink h l).now = s.now := rfl
@[simp] theorem State.setLink_pending (s : State) (h : Nat) (l : Link) : (s.setLink h l).pending = s.pending := rfl

/-! ### Links through updates of other fields -/

@[simp] theorem State.link_setEngine (s : State) (x : Engine) (h : Nat) : (s.setEngine x).link h = s.link h := rfl
@[simp] theorem State.link_setPool (s : State) (x : Pool) (h : Nat) : (s.setPool x).link h = s.link h := rfl
@[simp] theorem State.link_setTally (s : State) (x : TallyBlock) (h : Nat) : (s.setTally x).link h = s.link h := rfl
@[simp] theorem State.link_setTalk (s : State) (x : Talk) (h : Nat) : (s.setTalk x).link h = s.link h := rfl
@[simp] theorem State.link_setPlans (s : State) (x : Plans) (h : Nat) : (s.setPlans x).link h = s.link h := rfl
@[simp] theorem State.link_setRadio (s : State) (x : Radio) (h : Nat) : (s.setRadio x).link h = s.link h := rfl
@[simp] theorem State.link_setMtx (s : State) (x : Matrix) (h : Nat) : (s.setMtx x).link h = s.link h := rfl
@[simp] theorem State.link_setPort (s : State) (x : Port) (h : Nat) : (s.setPort x).link h = s.link h := rfl
@[simp] theorem State.link_setLines (s : State) (x : TallyLines) (h : Nat) : (s.setLines x).link h = s.link h := rfl
@[simp] theorem State.link_setPins (s : State) (x : Pins) (h : Nat) : (s.setPins x).link h = s.link h := rfl
@[simp] theorem State.link_setNow (s : State) (x : Nat) (h : Nat) : (s.setNow x).link h = s.link h := rfl
@[simp] theorem State.link_setPending (s : State) (x : List Instr) (h : Nat) : (s.setPending x).link h = s.link h := rfl

/-! ### Responses, faults of the port and notices -/

@[simp] theorem State.respond_links (s : State) (c : Nat) (st : Status) (b : RespBody) : (s.respond c st b).links = s.links := rfl
@[simp] theorem State.portFault_links (s : State) : s.portFault.links = s.links := rfl
@[simp] theorem State.notify_links (s : State) (n : Notice) : (s.notify n).links = s.links := rfl
@[simp] theorem State.respond_engine (s : State) (c : Nat) (st : Status) (b : RespBody) : (s.respond c st b).engine = s.engine := rfl
@[simp] theorem State.portFault_engine (s : State) : s.portFault.engine = s.engine := rfl
@[simp] theorem State.notify_engine (s : State) (n : Notice) : (s.notify n).engine = s.engine := rfl
@[simp] theorem State.respond_pool (s : State) (c : Nat) (st : Status) (b : RespBody) : (s.respond c st b).pool = s.pool := rfl
@[simp] theorem State.portFault_pool (s : State) : s.portFault.pool = s.pool := rfl
@[simp] theorem State.notify_pool (s : State) (n : Notice) : (s.notify n).pool = s.pool := rfl
@[simp] theorem State.respond_tally (s : State) (c : Nat) (st : Status) (b : RespBody) : (s.respond c st b).tally = s.tally := rfl
@[simp] theorem State.portFault_tally (s : State) : s.portFault.tally = s.tally := rfl
@[simp] theorem State.notify_tally (s : State) (n : Notice) : (s.notify n).tally = s.tally := rfl
@[simp] theorem State.respond_talk (s : State) (c : Nat) (st : Status) (b : RespBody) : (s.respond c st b).talk = s.talk := rfl
@[simp] theorem State.portFault_talk (s : State) : s.portFault.talk = s.talk := rfl
@[simp] theorem State.notify_talk (s : State) (n : Notice) : (s.notify n).talk = s.talk := rfl
@[simp] theorem State.respond_plans (s : State) (c : Nat) (st : Status) (b : RespBody) : (s.respond c st b).plans = s.plans := rfl
@[simp] theorem State.portFault_plans (s : State) : s.portFault.plans = s.plans := rfl
@[simp] theorem State.notify_plans (s : State) (n : Notice) : (s.notify n).plans = s.plans := rfl
@[simp] theorem State.respond_radio (s : State) (c : Nat) (st : Status) (b : RespBody) : (s.respond c st b).radio = s.radio := rfl
@[simp] theorem State.portFault_radio (s : State) : s.portFault.radio = s.radio := rfl
@[simp] theorem State.notify_radio (s : State) (n : Notice) : (s.notify n).radio = s.radio := rfl
@[simp] theorem State.respond_mtx (s : State) (c : Nat) (st : Status) (b : RespBody) : (s.respond c st b).mtx = s.mtx := rfl
@[simp] theorem State.portFault_mtx (s : State) : s.portFault.mtx = s.mtx := rfl
@[simp] theorem State.notify_mtx (s : State) (n : Notice) : (s.notify n).mtx = s.mtx := rfl
@[simp] theorem State.respond_lines (s : State) (c : Nat) (st : Status) (b : RespBody) : (s.respond c st b).lines = s.lines := rfl
@[simp] theorem State.portFault_lines (s : State) : s.portFault.lines = s.lines := rfl
@[simp] theorem State.notify_lines (s : State) (n : Notice) : (s.notify n).lines = s.lines := rfl
@[simp] theorem State.respond_pins (s : State) (c : Nat) (st : Status) (b : RespBody) : (s.respond c st b).pins = s.pins := rfl
@[simp] theorem State.portFault_pins (s : State) : s.portFault.pins = s.pins := rfl
@[simp] theorem State.notify_pins (s : State) (n : Notice) : (s.notify n).pins = s.pins := rfl
@[simp] theorem State.respond_now (s : State) (c : Nat) (st : Status) (b : RespBody) : (s.respond c st b).now = s.now := rfl
@[simp] theorem State.portFault_now (s : State) : s.portFault.now = s.now := rfl
@[simp] theorem State.notify_now (s : State) (n : Notice) : (s.notify n).now = s.now := rfl
@[simp] theorem State.respond_pending (s : State) (c : Nat) (st : Status) (b : RespBody) : (s.respond c st b).pending = s.pending := rfl
@[simp] theorem State.portFault_pending (s : State) : s.portFault.pending = s.pending := rfl
@[simp] theorem State.notify_pending (s : State) (n : Notice) : (s.notify n).pending = s.pending := rfl
@[simp] theorem State.respond_link (s : State) (c : Nat) (st : Status) (b : RespBody) (h : Nat) :
    (s.respond c st b).link h = s.link h := rfl
@[simp] theorem State.notify_link (s : State) (n : Notice) (h : Nat) : (s.notify n).link h = s.link h := rfl
@[simp] theorem State.respond_owed (s : State) (c : Nat) (st : Status) (b : RespBody) :
    (s.respond c st b).port.owed = some ⟨c, st, b⟩ := rfl
@[simp] theorem State.respond_notices (s : State) (c : Nat) (st : Status) (b : RespBody) :
    (s.respond c st b).port.notices = s.port.notices := rfl
@[simp] theorem State.respond_presented (s : State) (c : Nat) (st : Status) (b : RespBody) :
    (s.respond c st b).port.presented = s.port.presented := rfl
@[simp] theorem State.respond_portError (s : State) (c : Nat) (st : Status) (b : RespBody) :
    (s.respond c st b).port.portError = s.port.portError := rfl
@[simp] theorem State.respond_noticesLost (s : State) (c : Nat) (st : Status) (b : RespBody) :
    (s.respond c st b).port.noticesLost = s.port.noticesLost := rfl

/-- What queuing a notice can do to the port (R187). -/
theorem Port.queue_cases (p : Port) (n : Notice) :
    (p.notices.length < 16 ∧ p.queue n = { p with notices := p.notices ++ [n] }) ∨
    (16 ≤ p.notices.length ∧ p.queue n = { p with noticesLost := true }) := by
  unfold Port.queue
  split
  · exact .inl ⟨‹_›, rfl⟩
  · exact .inr ⟨Nat.le_of_not_lt ‹_›, rfl⟩

@[simp] theorem Port.queue_owed (p : Port) (n : Notice) : (p.queue n).owed = p.owed := by
  unfold Port.queue; split <;> rfl
@[simp] theorem Port.queue_presented (p : Port) (n : Notice) : (p.queue n).presented = p.presented := by
  unfold Port.queue; split <;> rfl
@[simp] theorem Port.queue_transaction (p : Port) (n : Notice) :
    (p.queue n).transaction = p.transaction := by unfold Port.queue; split <;> rfl
@[simp] theorem Port.queue_buffer (p : Port) (n : Notice) : (p.queue n).buffer = p.buffer := by
  unfold Port.queue; split <;> rfl
@[simp] theorem Port.queue_byteCount (p : Port) (n : Notice) : (p.queue n).byteCount = p.byteCount := by
  unfold Port.queue; split <;> rfl
@[simp] theorem Port.queue_portError (p : Port) (n : Notice) : (p.queue n).portError = p.portError := by
  unfold Port.queue; split <;> rfl

/-- Queuing keeps the depth at 16 at most (R186). -/
theorem Port.queue_length {p : Port} (n : Notice) (h : p.notices.length ≤ 16) :
    (p.queue n).notices.length ≤ 16 := by
  unfold Port.queue; split
  · simp; omega
  · exact h

/-- Queuing keeps the notices that wait, at the front and in their order (R186, R187). -/
theorem Port.queue_keeps (p : Port) (n : Notice) : p.notices <+: (p.queue n).notices := by
  unfold Port.queue; split
  · exact List.prefix_append _ _
  · exact List.prefix_refl _

@[simp] theorem State.notify_port (s : State) (n : Notice) : (s.notify n).port = s.port.queue n := rfl

end Sys2Proof.Machine
end

