-- ==== Sys2Proof/Laws/Check.lean ====
section
/-! SUPPORT. What a check that passes has found (R48 to R57), and what the records hold. -/

namespace Sys2Proof.Machine

open Sys2Proof

/-- A PASS: the span and the map let the candidate through, no term fails, and the margin is that of the
worst term. -/
theorem check_pass {p : Profile} {m : Tab 96 Bool} {occ : List Party} {c : Party} {margin : Nat}
    {term : Option TermRef} (h : check p m occ c = .pass margin term) :
    spanFault p c = none ∧ firstBlocked p m c.step c.half = none
      ∧ (∀ t, t ∈ checkTerms p occ c → 0 ≤ t.margin)
      ∧ margin = reportedMargin (worstTerm (checkTerms p occ c))
      ∧ term = (worstTerm (checkTerms p occ c)).map (·.ref) := by
  simp only [check] at h
  split at h
  · cases h
  · rename_i e
    cases a : spanFault p c with
    | some d => simp [a] at e
    | none =>
      cases b : firstBlocked p m c.step c.half with
      | some k => simp [a, blockedFault, b] at e
      | none =>
        simp only [a, blockedFault, b, Option.map_none, termFault, Option.orElse_eq_orElse,
          Option.orElse_none, Option.map_eq_none_iff, List.find?_eq_none, decide_eq_true_eq, Int.not_lt]
          at e
        cases h
        exact ⟨rfl, rfl, e, rfl, rfl⟩

/-- A member of the occupied set is held by the record its key names (R20, R21). -/
theorem mem_members {p : Profile} {h : Nat} {l : Link} {c : Party} (m : c ∈ l.members p h) :
    c.link = some h ∧ c.zones = l.zones ∧ c.half = (p.cls (l.cls.getD 0)).halfWidth
      ∧ ∃ o, c.key = .held h o ∧ (o, c.step) ∈ l.held := by
  simp only [Link.members, List.mem_map] at m
  obtain ⟨x, hx, rfl⟩ := m
  exact ⟨rfl, rfl, rfl, x.1, rfl, hx⟩

end Sys2Proof.Machine
end

