-- ==== Sys2Proof/Laws/Frames.lean ====
section
/-! SUPPORT. What the shared operations leave as it was: the low-pool evaluation, the Link Table's
transitions, the engine's choice of work, the two transmitters, and the end of an event. -/

namespace Sys2Proof.Machine

open Sys2Proof

/-! ### The fields that no block's own work touches -/

/-- The fields that only lines, pins, ticks, expiries and the Tally Resolver's commands change. -/
structure SameOutside (s t : State) : Prop where
  tally : t.tally = s.tally
  lines : t.lines = s.lines
  pins : t.pins = s.pins
  now : t.now = s.now
  pending : t.pending = s.pending

theorem SameOutside.refl (s : State) : SameOutside s s := ⟨rfl, rfl, rfl, rfl, rfl⟩

theorem SameOutside.trans {s t u : State} (a : SameOutside s t) (b : SameOutside t u) :
    SameOutside s u :=
  ⟨b.1.trans a.1, b.2.trans a.2, b.3.trans a.3, b.4.trans a.4, b.5.trans a.5⟩

theorem sameOutside_setLink (s : State) (h : Nat) (l : Link) : SameOutside s (s.setLink h l) :=
  ⟨rfl, rfl, rfl, rfl, rfl⟩

theorem sameOutside_notify (s : State) (n : Notice) : SameOutside s (s.notify n) :=
  ⟨rfl, rfl, rfl, rfl, rfl⟩

theorem sameOutside_setPool (s : State) (x : Pool) : SameOutside s (s.setPool x) :=
  ⟨rfl, rfl, rfl, rfl, rfl⟩

theorem sameOutside_setEngine (s : State) (x : Engine) : SameOutside s (s.setEngine x) :=
  ⟨rfl, rfl, rfl, rfl, rfl⟩

theorem sameOutside_restandAll (s : State) : SameOutside s s.restandAll := by
  unfold State.restandAll
  exact ⟨State.setTalk_tally _ _, State.setTalk_lines _ _, State.setTalk_pins _ _,
    State.setTalk_now _ _, State.setTalk_pending _ _⟩

theorem sameOutside_evalLowPool (s : State) : SameOutside s s.evalLowPool := by
  unfold State.evalLowPool; split
  · exact sameOutside_setPool _ _
  · split
    · exact ⟨rfl, rfl, rfl, rfl, rfl⟩
    · exact .refl _

theorem sameOutside_lowPoolSince (n : Nat) (s : State) : SameOutside s (s.lowPoolSince n) := by
  unfold State.lowPoolSince; split
  · exact .refl _
  · exact sameOutside_evalLowPool _

theorem sameOutside_enterFree (s : State) (h : Nat) : SameOutside s (s.enterFree h) := by
  unfold State.enterFree
  refine SameOutside.trans ?_ (sameOutside_restandAll _)
  exact ⟨rfl, rfl, rfl, rfl, rfl⟩

theorem sameOutside_deliver (s : State) (j : Job) (v : Verdict) : SameOutside s (s.deliver j v) := by
  unfold State.deliver
  simp only
  split
  · cases v <;> simp only [State.admissionVerdict, State.checkResult]
    · exact (SameOutside.trans (sameOutside_setLink _ _ _) (sameOutside_restandAll _)).trans
        (sameOutside_notify _ _)
    · exact (sameOutside_enterFree _ _).trans (sameOutside_notify _ _)
    · exact (sameOutside_enterFree _ _).trans (sameOutside_notify _ _)
  · split
    · exact ⟨rfl, rfl, rfl, rfl, rfl⟩
    · cases v <;> simp only [State.retuneVerdict]
      · exact ⟨rfl, rfl, rfl, rfl, rfl⟩
      · exact ⟨rfl, rfl, rfl, rfl, rfl⟩
      · split <;> exact ⟨rfl, rfl, rfl, rfl, rfl⟩
  · exact .refl _

theorem sameOutside_completeJob (s : State) (j : Job) (v : Verdict) (n : Nat) :
    SameOutside s (s.completeJob j v n) := by
  unfold State.completeJob
  split
  · exact ⟨rfl, rfl, rfl, rfl, rfl⟩
  · simp only
    have a : SameOutside s (s.dropHead.deliver j v) :=
      (sameOutside_setEngine s _).trans (sameOutside_deliver _ j v)
    split
    · exact (a.trans (sameOutside_setPool _ _)).trans (sameOutside_lowPoolSince _ _)
    · exact a.trans (sameOutside_lowPoolSince _ _)

theorem sameOutside_lookForSweep (s : State) : SameOutside s s.lookForSweep := by
  unfold State.lookForSweep
  split
  · split <;> exact ⟨rfl, rfl, rfl, rfl, rfl⟩
  · exact .refl _

theorem sameOutside_nextWork (n : Nat) (s : State) : SameOutside s (State.nextWork n s) := by
  induction n generalizing s with
  | zero => exact .refl _
  | succ n ih =>
    unfold State.nextWork
    split
    · exact sameOutside_lookForSweep s
    · split
      · exact ⟨rfl, rfl, rfl, rfl, rfl⟩
      · split
        · exact ⟨rfl, rfl, rfl, rfl, rfl⟩
        · exact (sameOutside_completeJob _ _ _ _).trans (ih _)

theorem sameOutside_engineKick (s : State) : SameOutside s s.engineKick := by
  unfold State.engineKick; split
  · exact sameOutside_nextWork _ _
  · exact .refl _

/-! ### The transmitters -/

/-- What serving a record, or beginning a PLAN, leaves: everything but the records' transmitted fields and
the Radio Port. -/
structure SameButSending (s t : State) : Prop where
  lasting : ∀ h, (t.link h).lasting = (s.link h).lasting
  engine : t.engine = s.engine
  pool : t.pool = s.pool
  talk : t.talk = s.talk
  plans : t.plans = s.plans
  mtx : t.mtx = s.mtx
  port : t.port = s.port
  cts : t.radio.cts = s.radio.cts
  received : t.radio.received = s.radio.received
  outside : SameOutside s t

theorem SameButSending.refl (s : State) : SameButSending s s :=
  ⟨fun _ => rfl, rfl, rfl, rfl, rfl, rfl, rfl, rfl, rfl, .refl s⟩

theorem lasting_setLink (s : State) (h g : Nat) {l : Link} (hl : l.lasting = (s.link h).lasting) :
    ((s.setLink h l).link g).lasting = (s.link g).lasting := by
  rw [State.link_setLink]
  split
  · rename_i c; rw [c.1, hl]
  · rfl

theorem sameButSending_serve (s : State) (h : Nat) : SameButSending s (s.serve h) := by
  have key : ∀ (l : Link) (r : Radio), l.lasting = (s.link h).lasting → r.cts = s.radio.cts →
      r.received = s.radio.received → SameButSending s ((s.setLink h l).setRadio r) :=
    fun l r a b c => ⟨fun g => lasting_setLink s h g a, rfl, rfl, rfl, rfl, rfl, rfl, b, c,
      ⟨rfl, rfl, rfl, rfl, rfl⟩⟩
  unfold State.serve
  split
  · exact key _ _ rfl rfl rfl
  · exact key _ _ rfl rfl rfl
  · exact key _ _ rfl rfl rfl

/-- All that a transmitter's start can do to the rest of the part (R170 to R172). -/
theorem sameButSending_radioKick (s : State) : SameButSending s s.radioKick := by
  unfold State.radioKick
  split
  · split
    · exact ⟨fun _ => rfl, rfl, rfl, rfl, rfl, rfl, rfl, rfl, rfl, ⟨rfl, rfl, rfl, rfl, rfl⟩⟩
    · split
      · exact sameButSending_serve s _
      · exact .refl s
  · exact .refl s

/-- The Matrix Port's start touches the Matrix Port alone (R178). -/
theorem matrixKick_eq (s : State) : ∃ m, s.matrixKick = s.setMtx m ∧ m.received = s.mtx.received := by
  unfold State.matrixKick
  split
  · split
    · exact ⟨_, rfl, rfl⟩
    · exact ⟨s.mtx, rfl, rfl⟩
  · exact ⟨s.mtx, rfl, rfl⟩

/-! ### The end of an event -/

/-- What a quiet engine's choice of work leaves: all but the pool's flags and marks, and its own work. -/
structure SameButSweep (s t : State) : Prop where
  links : t.links = s.links
  profile : t.engine.profile = s.engine.profile
  blocked : t.engine.blocked = s.engine.blocked
  queue : t.engine.queue = s.engine.queue
  threshold : t.pool.threshold = s.pool.threshold
  armed : t.pool.armed = s.pool.armed
  talk : t.talk = s.talk
  plans : t.plans = s.plans
  radio : t.radio = s.radio
  mtx : t.mtx = s.mtx
  port : t.port = s.port
  outside : SameOutside s t

theorem SameButSweep.refl (s : State) : SameButSweep s s :=
  ⟨rfl, rfl, rfl, rfl, rfl, rfl, rfl, rfl, rfl, rfl, rfl, .refl s⟩

theorem Pool.mark_threshold (p : Pool) (i : Nat) (u : InUse) : (p.mark i u).threshold = p.threshold := by
  unfold Pool.mark; split <;> rfl

theorem Pool.mark_armed (p : Pool) (i : Nat) (u : InUse) : (p.mark i u).armed = p.armed := by
  unfold Pool.mark; split <;> rfl

theorem sameButSweep_lookForSweep (s : State) : SameButSweep s s.lookForSweep := by
  unfold State.lookForSweep
  split
  · split
    · exact ⟨rfl, rfl, rfl, rfl, Pool.mark_threshold _ _ _, Pool.mark_armed _ _ _, rfl, rfl, rfl, rfl, rfl,
        ⟨rfl, rfl, rfl, rfl, rfl⟩⟩
    · exact ⟨rfl, rfl, rfl, rfl, rfl, rfl, rfl, rfl, rfl, rfl, rfl, ⟨rfl, rfl, rfl, rfl, rfl⟩⟩
  · exact .refl s

theorem sameButSweep_engineKick {s : State} (q : s.quiet) : SameButSweep s s.engineKick := by
  unfold State.engineKick
  split
  · rename_i hw
    unfold State.nextWork
    split
    · exact sameButSweep_lookForSweep s
    · rename_i j js hq
      split
      · exact ⟨rfl, rfl, rfl, rfl, rfl, rfl, rfl, rfl, rfl, rfl, rfl, ⟨rfl, rfl, rfl, rfl, rfl⟩⟩
      · rename_i hs
        split
        · exact ⟨rfl, rfl, rfl, rfl, Pool.mark_threshold _ _ _, Pool.mark_armed _ _ _, rfl, rfl, rfl,
            rfl, rfl, ⟨rfl, rfl, rfl, rfl, rfl⟩⟩
        · rename_i hp
          have := q hw j (by rw [hq]; rfl)
          simp [hs, hp] at this
  · exact .refl s

/-- All that the end of an event can do where the engine's next choice completes nothing at once. -/
structure SameButEnd (s t : State) : Prop where
  lasting : ∀ h, (t.link h).lasting = (s.link h).lasting
  profile : t.engine.profile = s.engine.profile
  blocked : t.engine.blocked = s.engine.blocked
  queue : t.engine.queue = s.engine.queue
  threshold : t.pool.threshold = s.pool.threshold
  armed : t.pool.armed = s.pool.armed
  talk : t.talk = s.talk
  plans : t.plans = s.plans
  port : t.port = s.port
  cts : t.radio.cts = s.radio.cts
  rrx : t.radio.received = s.radio.received
  mrx : t.mtx.received = s.mtx.received
  outside : SameOutside s t

theorem sameButEnd_finish (s0 : State) {s : State} (q : s.quiet) :
    SameButEnd s (State.finish s0 s) := by
  unfold State.finish
  obtain ⟨m, e, hm⟩ := matrixKick_eq (State.oweRoutes s0 s.engineKick.radioKick)
  rw [e]
  have a := sameButSweep_engineKick q
  have b := sameButSending_radioKick s.engineKick
  have hl : ∀ h, (s.engineKick.link h) = s.link h := fun h => by simp only [State.link, a.links]
  refine ⟨fun h => ?_, ?_, ?_, ?_, ?_, ?_, ?_, ?_, ?_, ?_, ?_, ?_, ?_⟩
  · exact (b.lasting h).trans (by rw [hl])
  · exact (congrArg Engine.profile b.engine).trans a.profile
  · exact (congrArg Engine.blocked b.engine).trans a.blocked
  · exact (congrArg Engine.queue b.engine).trans a.queue
  · exact (congrArg Pool.threshold b.pool).trans a.threshold
  · exact (congrArg Pool.armed b.pool).trans a.armed
  · exact b.talk.trans a.talk
  · exact b.plans.trans a.plans
  · exact b.port.trans a.port
  · exact b.cts.trans (congrArg Radio.cts a.radio)
  · exact b.received.trans (congrArg Radio.received a.radio)
  · exact hm.trans ((congrArg Matrix.received b.mtx).trans (congrArg Matrix.received a.mtx))
  · exact (a.outside.trans b.outside).trans ⟨rfl, rfl, rfl, rfl, rfl⟩

/-- What the end of an event never touches, whatever the engine does. -/
theorem sameOutside_finish (s0 s : State) : SameOutside s (State.finish s0 s) := by
  unfold State.finish
  obtain ⟨m, e, _⟩ := matrixKick_eq (State.oweRoutes s0 s.engineKick.radioKick)
  rw [e]
  exact ((sameOutside_engineKick s).trans (sameButSending_radioKick _).outside).trans
    ⟨rfl, rfl, rfl, rfl, rfl⟩

theorem SameOutside.same {s t : State} (a : SameOutside s t) : s.sameOutside t :=
  ⟨a.tally, a.lines, a.pins, a.now, a.pending⟩

/-- Where no message may begin on RTX, the end of an event leaves every record as it stands. -/
theorem links_finish (s0 : State) {s : State} (q : s.quiet) (r : s.radioHeld) :
    (State.finish s0 s).links = s.links := by
  unfold State.finish
  obtain ⟨m, e, _⟩ := matrixKick_eq (State.oweRoutes s0 s.engineKick.radioKick)
  rw [e]
  have a := sameButSweep_engineKick q
  have : s.engineKick.radioKick = s.engineKick := by
    unfold State.radioKick
    rw [a.radio]
    rcases r with h | h
    · have : s.radio.sending ≠ none := by intro c; simp [c] at h
      simp [this]
    · simp [h]
  rw [this]
  exact a.links

end Sys2Proof.Machine
end

