-- ==== Sys2Proof/WellFormed.lean ====
section
/-! DEFINITION. Which commands can arrive: every number fits the field that carries it (Table 11-2), a
label fits the length byte of its request, and a command of a catch-all row is one that no other row
takes. The machine does not ask for it: a command is executed whether or not it is well formed. -/

namespace Sys2Proof

/-- A field of one byte. -/
def fitsByte (n : Nat) : Bool := decide (n < 256)

/-- A field of two bytes. -/
def fitsWord (n : Nat) : Bool := decide (n < 65536)

/-- A step field, three bytes. -/
def fitsStep (n : Nat) : Bool := decide (n < 16777216)

/-- A label whose characters are bytes and which leaves the body, with `others` bytes of other fields
and its count byte, within the 250 bytes a length byte allows (R180, R192). -/
def fitsLabel (others : Nat) (l : List Nat) : Bool :=
  decide (others + 1 + l.length ≤ 250) && l.all fitsByte

/-- A request body: nothing is asked of one whose length is wrong. -/
def ReqBody.all {α : Type} (p : α → Bool) : ReqBody α → Bool
  | .args a => p a
  | .badLength => true

/-- A line message: nothing is asked of a malformed one. -/
def LineBody.all {α : Type} (p : α → Bool) : LineBody α → Bool
  | .fields a => p a
  | .badLength => true
  | .badSum => true

def ProfileArgs.fits (a : ProfileArgs) : Bool :=
  fitsStep a.spanLow && fitsStep a.spanHigh && fitsStep a.origin && fitsByte a.widthCode
    && fitsWord a.gcc && fitsWord a.g3 && fitsWord a.g5 && fitsByte a.im5
    && fitsByte a.settle && fitsByte a.window
    && a.classes.rows.all fun c => fitsWord c.halfWidth && fitsByte c.contributes

def MapArgs.fits (a : MapArgs) : Bool :=
  fitsByte a.present1 && fitsByte a.present2
    && fitsByte a.cascade1.target && fitsByte a.cascade1.input
    && fitsByte a.cascade2.target && fitsByte a.cascade2.input
    && fitsWord a.live0 && fitsWord a.live1 && fitsWord a.live2 && fitsByte a.protectIso

def KeyArgs.fits (a : KeyArgs) : Bool :=
  fitsByte a.key && fitsByte a.originKind && fitsByte a.origin1 && fitsByte a.origin2
    && fitsByte a.dest && fitsByte a.level && fitsByte a.type

def DestArgs.fits (a : DestArgs) : Bool :=
  fitsByte a.dest && fitsByte a.kind && fitsByte a.target && fitsByte a.watch && fitsByte a.mode
    && fitsByte a.limit && fitsByte a.threshold && fitsByte a.rotation && fitsWord a.talkLimit

/-- A request transaction with at least one complete byte, whose code is not COLLECT's, that is not
exactly 2 + length complete bytes with a length of at most 250 (R180). -/
def misframed (bytes : List Byte) (bits : Nat) : Bool :=
  match bytes with
  | [] => false
  | [c] => decide (c ≠ 0 ∧ bits < 8)
  | c :: n :: body =>
    decide (c ≠ 0 ∧ bits < 8 ∧ (bits ≠ 0 ∨ 250 < n.toNat ∨ body.length ≠ n.toNat))

/-- The commands that can arrive at the part. -/
def Instr.wellFormed : Instr → Bool
  | .loadProfile b => b.all ProfileArgs.fits
  | .readProfile _ => true
  | .block b => b.all fitsByte
  | .unblock b => b.all fitsByte
  | .queryLink b => b.all fitsByte
  | .findLabel b => b.all (fitsLabel 0)
  | .findFrequency b => b.all fitsStep
  | .findBinding b => b.all fun a => fitsByte a.source && fitsByte a.input
  | .listLinks b => b.all fun a => fitsByte a.start
  | .setLabel b => b.all fun a => fitsByte a.handle && fitsLabel 1 a.label
  | .setPolicy b => b.all fun a => fitsByte a.handle && fitsByte a.policy
  | .admitLink b => b.all fun a =>
      fitsByte a.kind && fitsByte a.cls && fitsLabel 7 a.label && fitsByte a.policy && fitsStep a.step
  | .retune b => b.all fun a => fitsByte a.handle && fitsStep a.step && fitsByte a.force
  | .moveZones b => b.all fun a => fitsByte a.handle
  | .cancelRetune b => b.all fitsByte
  | .tuneNow b => b.all fitsByte
  | .retire b => b.all fun a => fitsByte a.handle && fitsByte a.on
  | .discard b => b.all fitsByte
  | .seedSpare b => b.all fun a => fitsStep a.step && fitsByte a.cls
  | .dropSpare b => b.all fitsByte
  | .readPool b => b.all fitsByte
  | .setPoolThreshold b => b.all fitsByte
  | .answerReferral b => b.all fun a => fitsByte a.handle && fitsStep a.step
  | .declineReferral b => b.all fitsByte
  | .loadTallyMap b => b.all MapArgs.fits
  | .clearSource b => b.all fitsByte
  | .bind b => b.all fun a => fitsByte a.handle && fitsByte a.source && fitsByte a.input
  | .unbind b => b.all fun a => fitsByte a.source && fitsByte a.input
  | .holdLive b => b.all fun a => fitsByte a.handle && fitsByte a.on
  | .suppress b => b.all fun a => fitsByte a.handle && fitsByte a.on
  | .readTally _ => true
  | .defineKey b => b.all KeyArgs.fits
  | .deleteKey b => b.all fitsByte
  | .defineDest b => b.all DestArgs.fits
  | .setTarget b => b.all fun a => fitsByte a.dest && fitsByte a.handle
  | .setWatch b => b.all fun a => fitsByte a.dest && fitsByte a.handle
  | .deleteDest b => b.all fitsByte
  | .setLast b => b.all fitsByte
  | .clearTalk _ => true
  | .queryDest b => b.all fitsByte
  | .queryKey b => b.all fitsByte
  | .stageDown b => b.all fun a => fitsByte a.slot && fitsByte a.dest
  | .stageListen b => b.all fun a => fitsByte a.handle
  | .stageUp b => b.all fun a => fitsByte a.handle && fitsByte a.up
  | .commit _ => true
  | .discardPlan _ => true
  | .readPlan b => b.all fun a => fitsByte a.which && fitsByte a.start
  | .readSummary _ => true
  | .unrecognisedRequest code => decide (48 < code) && fitsByte code
  | .framingError bytes bits => misframed bytes bits
  | .collect => true
  | .collectEnd _ => true
  | .checkCompletion => true
  | .trialEnd => true
  | .sweepUnitCompletion => true
  | .settleTimerExpiry h => decide (h < 160)
  | .releaseTimerExpiry h => decide (h < 160)
  | .referralTimerExpiry h => decide (h < 160)
  | .tuned b => b.all fun a => fitsByte a.handle && fitsStep a.step
  | .muted b => b.all fitsByte
  | .interference b => b.all fun a => fitsByte a.handle && fitsByte a.severity
  | .carrierLoss b => b.all fitsByte
  | .carrierBack b => b.all fitsByte
  | .key b => b.all fun a => fitsByte a.handle && fitsByte a.packKey && fitsByte a.direction
  | .radioReceiveTimeout => true
  | .ctsAsserted => true
  | .radioMessageComplete => true
  | .press b => b.all fun a => fitsByte a.panel && fitsByte a.button
  | .release b => b.all fun a => fitsByte a.panel && fitsByte a.button
  | .matrixReceiveTimeout => true
  | .routeComplete => true
  | .tallyFrame _ b => b.all fun a =>
      fitsByte a.program.length && fitsByte a.preview.length
        && a.program.all fitsByte && a.preview.all fitsByte
  | .tallyReceiveTimeout _ => true
  | .livenessExpiry _ => true
  | .talkDeadlineExpiry k => decide (k < 96)
  | .frameMark => true
  | .hardwareReset => true
  | .ctsWithdrawn => true
  | .resetRisingEdge _ => true
  | .radioUnknownReportType t => fitsByte t && decide (t < 17 ∨ 22 < t)
  | .matrixUnknownEventType t => fitsByte t && decide (t ≠ 33 ∧ t ≠ 34)
  | .tallyUnknownMessageType _ t => fitsByte t && decide (t ≠ 49)

end Sys2Proof
end

