-- ==== Sys2Proof/Laws/PerInstr.lean ====
section
/-! SUPPORT. A statement about every command as syntax: a well-formed command that is a request has a code
from 1 to 255, and a code above 48 is that of an unrecognised one (Table 11-1, R181). -/

namespace Sys2Proof.Laws.RequestCode

open Sys2Proof

/-- The code of a well-formed request fits its byte, is not COLLECT's, and is one of Table 10-3 unless the
request is unrecognised. -/
def Statement (c : Instr) : Prop :=
  c.wellFormed = true → ∀ n ok, c.request = some (n, ok) →
    1 ≤ n ∧ n ≤ 255 ∧ (n ≤ 48 ∨ c = .unrecognisedRequest n)

/-- A command that is no request. -/
theorem of_none {c : Instr} (h : c.request = none) : Statement c := by
  intro _ n ok e
  simp [h] at e

/-- A request of a code of Table 10-3. -/
theorem of_known {c : Instr} {k : Nat} {b : Bool} (h : c.request = some (k, b)) (l : 1 ≤ k) (u : k ≤ 48) :
    Statement c := by
  intro _ n ok e
  simp only [h, Option.some.injEq, Prod.mk.injEq] at e
  omega

theorem loadProfile (b : ReqBody ProfileArgs) : Statement (.loadProfile b) := of_known rfl (by decide) (by decide)

theorem readProfile (b : ReqBody Unit) : Statement (.readProfile b) := of_known rfl (by decide) (by decide)

theorem block (b : ReqBody Nat) : Statement (.block b) := of_known rfl (by decide) (by decide)

theorem unblock (b : ReqBody Nat) : Statement (.unblock b) := of_known rfl (by decide) (by decide)

theorem queryLink (b : ReqBody Nat) : Statement (.queryLink b) := of_known rfl (by decide) (by decide)

theorem findLabel (b : ReqBody (List Nat)) : Statement (.findLabel b) := of_known rfl (by decide) (by decide)

theorem findFrequency (b : ReqBody Nat) : Statement (.findFrequency b) := of_known rfl (by decide) (by decide)

theorem findBinding (b : ReqBody InputArgs) : Statement (.findBinding b) := of_known rfl (by decide) (by decide)

theorem listLinks (b : ReqBody ListArgs) : Statement (.listLinks b) := of_known rfl (by decide) (by decide)

theorem setLabel (b : ReqBody LabelArgs) : Statement (.setLabel b) := of_known rfl (by decide) (by decide)

theorem setPolicy (b : ReqBody PolicyArgs) : Statement (.setPolicy b) := of_known rfl (by decide) (by decide)

theorem admitLink (b : ReqBody AdmitArgs) : Statement (.admitLink b) := of_known rfl (by decide) (by decide)

theorem retune (b : ReqBody RetuneArgs) : Statement (.retune b) := of_known rfl (by decide) (by decide)

theorem moveZones (b : ReqBody ZonesArgs) : Statement (.moveZones b) := of_known rfl (by decide) (by decide)

theorem cancelRetune (b : ReqBody Nat) : Statement (.cancelRetune b) := of_known rfl (by decide) (by decide)

theorem tuneNow (b : ReqBody Nat) : Statement (.tuneNow b) := of_known rfl (by decide) (by decide)

theorem retire (b : ReqBody FlagArgs) : Statement (.retire b) := of_known rfl (by decide) (by decide)

theorem discard (b : ReqBody Nat) : Statement (.discard b) := of_known rfl (by decide) (by decide)

theorem seedSpare (b : ReqBody SpareArgs) : Statement (.seedSpare b) := of_known rfl (by decide) (by decide)

theorem dropSpare (b : ReqBody Nat) : Statement (.dropSpare b) := of_known rfl (by decide) (by decide)

theorem readPool (b : ReqBody Nat) : Statement (.readPool b) := of_known rfl (by decide) (by decide)

theorem setPoolThreshold (b : ReqBody Nat) : Statement (.setPoolThreshold b) := of_known rfl (by decide) (by decide)

theorem answerReferral (b : ReqBody HandleStep) : Statement (.answerReferral b) := of_known rfl (by decide) (by decide)

theorem declineReferral (b : ReqBody Nat) : Statement (.declineReferral b) := of_known rfl (by decide) (by decide)

theorem loadTallyMap (b : ReqBody MapArgs) : Statement (.loadTallyMap b) := of_known rfl (by decide) (by decide)

theorem clearSource (b : ReqBody Nat) : Statement (.clearSource b) := of_known rfl (by decide) (by decide)

theorem bind (b : ReqBody BindArgs) : Statement (.bind b) := of_known rfl (by decide) (by decide)

theorem unbind (b : ReqBody InputArgs) : Statement (.unbind b) := of_known rfl (by decide) (by decide)

theorem holdLive (b : ReqBody FlagArgs) : Statement (.holdLive b) := of_known rfl (by decide) (by decide)

theorem suppress (b : ReqBody FlagArgs) : Statement (.suppress b) := of_known rfl (by decide) (by decide)

theorem readTally (b : ReqBody Unit) : Statement (.readTally b) := of_known rfl (by decide) (by decide)

theorem defineKey (b : ReqBody KeyArgs) : Statement (.defineKey b) := of_known rfl (by decide) (by decide)

theorem deleteKey (b : ReqBody Nat) : Statement (.deleteKey b) := of_known rfl (by decide) (by decide)

theorem defineDest (b : ReqBody DestArgs) : Statement (.defineDest b) := of_known rfl (by decide) (by decide)

theorem setTarget (b : ReqBody DestLink) : Statement (.setTarget b) := of_known rfl (by decide) (by decide)

theorem setWatch (b : ReqBody DestLink) : Statement (.setWatch b) := of_known rfl (by decide) (by decide)

theorem deleteDest (b : ReqBody Nat) : Statement (.deleteDest b) := of_known rfl (by decide) (by decide)

theorem setLast (b : ReqBody Nat) : Statement (.setLast b) := of_known rfl (by decide) (by decide)

theorem clearTalk (b : ReqBody Unit) : Statement (.clearTalk b) := of_known rfl (by decide) (by decide)

theorem queryDest (b : ReqBody Nat) : Statement (.queryDest b) := of_known rfl (by decide) (by decide)

theorem queryKey (b : ReqBody Nat) : Statement (.queryKey b) := of_known rfl (by decide) (by decide)

theorem stageDown (b : ReqBody DownArgs) : Statement (.stageDown b) := of_known rfl (by decide) (by decide)

theorem stageListen (b : ReqBody ListenArgs) : Statement (.stageListen b) := of_known rfl (by decide) (by decide)

theorem stageUp (b : ReqBody UpArgs) : Statement (.stageUp b) := of_known rfl (by decide) (by decide)

theorem commit (b : ReqBody Unit) : Statement (.commit b) := of_known rfl (by decide) (by decide)

theorem discardPlan (b : ReqBody Unit) : Statement (.discardPlan b) := of_known rfl (by decide) (by decide)

theorem readPlan (b : ReqBody PlanArgs) : Statement (.readPlan b) := of_known rfl (by decide) (by decide)

theorem readSummary (b : ReqBody Unit) : Statement (.readSummary b) := of_known rfl (by decide) (by decide)

theorem unrecognisedRequest (code : Nat) : Statement (.unrecognisedRequest code) := by
  intro w n ok e
  simp only [Instr.request, Option.some.injEq, Prod.mk.injEq] at e
  obtain ⟨rfl, -⟩ := e
  simp only [Instr.wellFormed, fitsByte, Bool.and_eq_true, decide_eq_true_eq] at w
  exact ⟨by omega, by omega, Or.inr rfl⟩

theorem framingError (bytes : List Byte) (bits : Nat) : Statement (.framingError bytes bits) := of_none rfl

theorem collect : Statement .collect := of_none rfl

theorem collectEnd (clocked : Nat) : Statement (.collectEnd clocked) := of_none rfl

theorem checkCompletion : Statement .checkCompletion := of_none rfl

theorem trialEnd : Statement .trialEnd := of_none rfl

theorem sweepUnitCompletion : Statement .sweepUnitCompletion := of_none rfl

theorem settleTimerExpiry (handle : Nat) : Statement (.settleTimerExpiry handle) := of_none rfl

theorem releaseTimerExpiry (handle : Nat) : Statement (.releaseTimerExpiry handle) := of_none rfl

theorem referralTimerExpiry (handle : Nat) : Statement (.referralTimerExpiry handle) := of_none rfl

theorem tuned (b : LineBody HandleStep) : Statement (.tuned b) := of_none rfl

theorem muted (b : LineBody Nat) : Statement (.muted b) := of_none rfl

theorem interference (b : LineBody InterferenceArgs) : Statement (.interference b) := of_none rfl

theorem carrierLoss (b : LineBody Nat) : Statement (.carrierLoss b) := of_none rfl

theorem carrierBack (b : LineBody Nat) : Statement (.carrierBack b) := of_none rfl

theorem key (b : LineBody PackKeyArgs) : Statement (.key b) := of_none rfl

theorem radioReceiveTimeout : Statement .radioReceiveTimeout := of_none rfl

theorem ctsAsserted : Statement .ctsAsserted := of_none rfl

theorem radioMessageComplete : Statement .radioMessageComplete := of_none rfl

theorem press (b : LineBody PanelArgs) : Statement (.press b) := of_none rfl

theorem release (b : LineBody PanelArgs) : Statement (.release b) := of_none rfl

theorem matrixReceiveTimeout : Statement .matrixReceiveTimeout := of_none rfl

theorem routeComplete : Statement .routeComplete := of_none rfl

theorem tallyFrame (line : Source) (b : LineBody FrameArgs) : Statement (.tallyFrame line b) := of_none rfl

theorem tallyReceiveTimeout (line : Source) : Statement (.tallyReceiveTimeout line) := of_none rfl

theorem livenessExpiry (source : Source) : Statement (.livenessExpiry source) := of_none rfl

theorem talkDeadlineExpiry (key : Nat) : Statement (.talkDeadlineExpiry key) := of_none rfl

theorem frameMark : Statement .frameMark := of_none rfl

theorem hardwareReset : Statement .hardwareReset := of_none rfl

theorem ctsWithdrawn : Statement .ctsWithdrawn := of_none rfl

theorem resetRisingEdge (selLow : Bool) : Statement (.resetRisingEdge selLow) := of_none rfl

theorem radioUnknownReportType (type : Nat) : Statement (.radioUnknownReportType type) := of_none rfl

theorem matrixUnknownEventType (type : Nat) : Statement (.matrixUnknownEventType type) := of_none rfl

theorem tallyUnknownMessageType (line : Source) (type : Nat) : Statement (.tallyUnknownMessageType line type) := of_none rfl

end Sys2Proof.Laws.RequestCode
end

