-- ==== Sys2Proof/Laws/Requests.lean ====
section
/-! SUPPORT. How requests, events and reports reach their owners: one lemma per way of being taken. -/

namespace Sys2Proof.Machine

open Sys2Proof

theorem transaction_listening {s : State} (h : s.listening) (k : State → State) :
    s.transaction k = k s := by
  obtain ⟨a, b, c⟩ := h
  simp [State.transaction, a, b, c]

/-- A request passed to its owner (R181). -/
theorem take_accepts {α : Type} {s : State} (h : s.accepts) (code : Nat) (always : Bool) (a : α)
    (own : α → State → Answer) :
    s.take code always (.args a) own
      = (own a s).state.respond code (own a s).status (own a s).body := by
  obtain ⟨⟨l, o⟩, c⟩ := h
  simp [State.take, transaction_listening l, o, c]

/-- LOAD PROFILE and READ SUMMARY reach their owner in both configured states (R8). -/
theorem take_free {α : Type} {s : State} (h : s.free) (code : Nat) (a : α) (own : α → State → Answer) :
    s.take code true (.args a) own
      = (own a s).state.respond code (own a s).status (own a s).body := by
  simp [State.take, transaction_listening h.1, h.2]

theorem event_live {s : State} (h : s.pins.inReset = false) (k : State → State) : s.event k = k s := by
  simp [State.event, h]

theorem outside_live {s : State} (h : s.live) (k : State → State) : s.outside k = k s := by
  simp [State.outside, h.1, h.2]

/-- A report handed to its owner (R174). -/
theorem report_live {α : Type} {s : State} (l : s.live) {a : α} {handle : α → Nat} {inRange : α → Bool}
    (hh : handleOk (handle a) = true) (hr : inRange a = true)
    (hf : (s.link (handle a)).state ≠ .free) (k : α → State → State) :
    s.report (.fields a) handle inRange k = k a s.rrxDone := by
  simp [State.report, event_live l.1, l.2, hh, hr, hf]

/-- A request about an existing link, its arguments in range (R29). -/
theorem withLink_exists {s : State} {h : Nat} (hh : handleOk h = true) (hf : (s.link h).state ≠ .free)
    (k : Link → Answer) : s.withLink h true k = k (s.link h) := by
  simp [State.withLink, hh, hf]

/-- Quiet is a matter of the engine and the pool alone. -/
theorem quiet_congr {s t : State} (he : t.engine = s.engine) (hp : t.pool = s.pool) (q : s.quiet) :
    t.quiet := by
  unfold State.quiet at *
  rw [he, hp]
  exact q

/-- A settled engine is quiet. -/
theorem quiet_of_settled {s : State} (h : s.engineSettled) : s.quiet := by
  intro w j hj
  simp [(h w).1] at hj

/-- An accepted request that ends as an event does, where the engine is quiet and queues no notice. -/
theorem done_answeredOnly (s0 : State) {s : State} (q : s.quiet) (code : Nat) (st : Status)
    (b : RespBody) :
    s.answeredOnly ((State.done s0 s st b).state.respond code (State.done s0 s st b).status
      (State.done s0 s st b).body) code st b := by
  unfold State.answeredOnly
  have e := (sameButEnd_finish s0 q).port
  show ({ (State.finish s0 s).port.ended with owed := some ⟨code, st, b⟩ } : Port) = _
  rw [e]

/-- Moving the timebase leaves every other field. -/
@[simp] theorem reachTime_now (s : State) (d : Nat) : (s.reachTime d).now = max s.now d := rfl

@[simp] theorem reachTime_link (s : State) (d h : Nat) : (s.reachTime d).link h = s.link h := rfl

end Sys2Proof.Machine
end

