-- ==== Sys2Proof/Laws/Talk.lean ====
section
/-! SUPPORT. What the Talk Arbiter's operations can do: the two tables, the waiting order, a grant, a wait,
the end of a wait, and a refill. -/

namespace Sys2Proof.Machine

open Sys2Proof

/-! ### The tables -/

/-- A defined entry is one of the table's. -/
theorem Tab.lt_of_get_some {n : Nat} {α : Type} {t : Tab n (Option α)} {i : Nat} {x : α}
    (h : t.get i none = some x) : i < n := by
  apply Decidable.byContradiction
  intro c
  have : t.rows.length ≤ i := by rw [t.size]; omega
  simp [Tab.get, List.getD_eq_getElem?_getD, List.getElem?_eq_none this] at h

theorem Talk.key_lt {t : Talk} {k : Nat} {x : Key} (h : t.key k = some x) : k < 96 := Tab.lt_of_get_some h

theorem Talk.dest_lt {t : Talk} {id : Nat} {d : Dest} (h : t.dest id = some d) : id < 32 :=
  Tab.lt_of_get_some h

@[simp] theorem Talk.key_setDest (t : Talk) (id : Nat) (d : Option Dest) (k : Nat) :
    (t.setDest id d).key k = t.key k := rfl

@[simp] theorem Talk.dest_setKey (t : Talk) (k : Nat) (x : Option Key) (id : Nat) :
    (t.setKey k x).dest id = t.dest id := rfl

@[simp] theorem Talk.key_setKey_same (t : Talk) {k : Nat} (x : Option Key) (h : k < 96) :
    (t.setKey k x).key k = x := Tab.get_set_same _ _ _ h

@[simp] theorem Talk.key_setKey_other (t : Talk) {k j : Nat} (x : Option Key) (h : j ≠ k) :
    (t.setKey k x).key j = t.key j := Tab.get_set_other _ _ _ h

@[simp] theorem Talk.dest_setDest_same (t : Talk) {id : Nat} (d : Option Dest) (h : id < 32) :
    (t.setDest id d).dest id = d := Tab.get_set_same _ _ _ h

@[simp] theorem Talk.dest_setDest_other (t : Talk) {id i : Nat} (d : Option Dest) (h : i ≠ id) :
    (t.setDest id d).dest i = t.dest i := Tab.get_set_other _ _ _ h

@[simp] theorem Talk.dest_onKey (t : Talk) (k : Nat) (f : Key → Key) (id : Nat) :
    (t.onKey k f).dest id = t.dest id := by
  unfold Talk.onKey
  split <;> rfl

@[simp] theorem Talk.key_onDest (t : Talk) (id : Nat) (f : Dest → Dest) (k : Nat) :
    (t.onDest id f).key k = t.key k := by
  unfold Talk.onDest
  split <;> rfl

theorem Talk.key_onKey_same (t : Talk) (k : Nat) (f : Key → Key) :
    (t.onKey k f).key k = (t.key k).map f := by
  unfold Talk.onKey
  split
  · rename_i x h
    rw [Talk.key_setKey_same _ _ (Talk.key_lt h), h, Option.map_some]
  · rename_i h
    rw [h, Option.map_none]

@[simp] theorem Talk.key_onKey_other (t : Talk) {k j : Nat} (f : Key → Key) (h : j ≠ k) :
    (t.onKey k f).key j = t.key j := by
  unfold Talk.onKey
  split
  · exact Talk.key_setKey_other _ _ h
  · rfl

theorem Talk.dest_onDest_same (t : Talk) (id : Nat) (f : Dest → Dest) :
    (t.onDest id f).dest id = (t.dest id).map f := by
  unfold Talk.onDest
  split
  · rename_i d h
    rw [Talk.dest_setDest_same _ _ (Talk.dest_lt h), h, Option.map_some]
  · rename_i h
    rw [h, Option.map_none]

@[simp] theorem Talk.dest_onDest_other (t : Talk) {id i : Nat} (f : Dest → Dest) (h : i ≠ id) :
    (t.onDest id f).dest i = t.dest i := by
  unfold Talk.onDest
  split
  · exact Talk.dest_setDest_other _ _ h
  · rfl

/-! ### The waiting order (R141) -/

theorem insertBy_perm (rank : Nat → Nat) (k : Nat) (l : List Nat) : (insertBy rank k l).Perm (k :: l) := by
  induction l with
  | nil => exact .refl _
  | cons x xs ih =>
    unfold insertBy
    split
    · exact .refl _
    · exact (ih.cons x).trans (.swap k x xs)

theorem mem_insertBy (rank : Nat → Nat) (k j : Nat) (l : List Nat) :
    j ∈ insertBy rank k l ↔ j = k ∨ j ∈ l := by
  rw [(insertBy_perm rank k l).mem_iff, List.mem_cons]

theorem sortBy_perm (rank : Nat → Nat) (l : List Nat) : (sortBy rank l).Perm l := by
  suffices ∀ acc, (l.foldl (fun acc k => insertBy rank k acc) acc).Perm (l ++ acc) by
    simpa [sortBy] using this []
  induction l with
  | nil => intro acc; exact .refl _
  | cons x xs ih =>
    intro acc
    exact (ih _).trans (((insertBy_perm rank x acc).append_left xs).trans List.perm_middle)

/-! ### One operation, all it does -/

/-- A change confined to the entry of one key and one destination. -/
structure Talk.Within (t u : Talk) (id k : Nat) : Prop where
  key : ∀ j, j ≠ k → u.key j = t.key j
  dest : ∀ i, i ≠ id → u.dest i = t.dest i

/-- A grant (R143, R144, R152). -/
theorem Talk.grant_spec {t : Talk} {id : Nat} {d : Dest} (h : t.dest id = some d) (now k : Nat) :
    (t.grant now id k).key k
        = (t.key k).map (fun x => { x with state := .talking, deadline := d.deadline now })
      ∧ (t.grant now id k).dest id
        = some { d with waiting := d.waiting.erase k, talking := d.talking ++ [k] }
      ∧ Talk.Within t (t.grant now id k) id k := by
  simp only [Talk.grant, h]
  exact ⟨t.key_onKey_same k _, Talk.dest_setDest_same _ _ (Talk.dest_lt h),
    ⟨fun j hj => t.key_onKey_other _ hj,
      fun i hi => (Talk.dest_setDest_other _ _ hi).trans (t.dest_onKey k _ i)⟩⟩

/-- A wait (R144, R147). -/
theorem Talk.wait_spec {t : Talk} {id : Nat} {d : Dest} (h : t.dest id = some d) (k : Nat) :
    (t.wait id k).key k = (t.key k).map (fun x => { x with state := .waiting, deadline := none })
      ∧ (t.wait id k).dest id = some { d with
          talking := d.talking.erase k
          waiting := insertBy (t.waitRank d) k (d.waiting.erase k) }
      ∧ Talk.Within t (t.wait id k) id k := by
  simp only [Talk.wait, h]
  exact ⟨t.key_onKey_same k _, Talk.dest_setDest_same _ _ (Talk.dest_lt h),
    ⟨fun j hj => t.key_onKey_other _ hj,
      fun i hi => (Talk.dest_setDest_other _ _ hi).trans (t.dest_onKey k _ i)⟩⟩

/-- The end of a wait (R146). -/
theorem Talk.endWait_spec {t : Talk} {id : Nat} {d : Dest} (h : t.dest id = some d) (k : Nat) :
    (t.endWait id k).key k = (t.key k).map (fun x => { x with state := .idle, deadline := none })
      ∧ (t.endWait id k).dest id
        = some { d with waiting := d.waiting.erase k, requests := d.requests.erase k }
      ∧ Talk.Within t (t.endWait id k) id k := by
  unfold Talk.endWait Talk.idleKey
  refine ⟨?_, ?_, ⟨fun j hj => ?_, fun i hi => ?_⟩⟩
  · rw [Talk.key_onDest, Talk.key_onKey_same]
  · rw [Talk.dest_onDest_same, Talk.dest_onKey, h, Option.map_some]
  · rw [Talk.key_onDest, Talk.key_onKey_other _ _ hj]
  · rw [Talk.dest_onDest_other _ _ hi, Talk.dest_onKey]

/-! ### A refill (R143) -/

/-- What grants to waiting keys of destination `id` leave: other destinations, the keys that were not
waiting there, and of the destination all but its two lists, of which one grows by what the other loses. -/
structure Talk.Refilled (t u : Talk) (id : Nat) (d : Dest) : Prop where
  others : ∀ i, i ≠ id → u.dest i = t.dest i
  keys : ∀ k, k ∉ d.waiting → u.key k = t.key k
  dest : ∃ granted waiting, u.dest id = some { d with talking := d.talking ++ granted, waiting := waiting }
    ∧ (∀ k, k ∈ waiting → k ∈ d.waiting) ∧ (∀ k, k ∈ granted → k ∈ d.waiting)

theorem Talk.Refilled.refl {t : Talk} {id : Nat} {d : Dest} (h : t.dest id = some d) :
    Talk.Refilled t t id d :=
  ⟨fun _ _ => rfl, fun _ _ => rfl, [], d.waiting, by rw [h, List.append_nil], fun _ m => m,
    fun _ m => by cases m⟩

theorem Talk.refillN_spec (now id : Nat) (n : Nat) (t : Talk) (d : Dest) (h : t.dest id = some d) :
    Talk.Refilled t (Talk.refillN now id n t) id d := by
  induction n generalizing t d with
  | zero => exact .refl h
  | succ n ih =>
    simp only [Talk.refillN, h]
    split
    · split
      · rename_i k e
        have hk : k ∈ d.waiting := List.mem_of_find?_eq_some e
        obtain ⟨-, hd, w⟩ := t.grant_spec h now k
        obtain ⟨o, ks, g, ws, e', hw, hg⟩ := ih _ _ hd
        refine ⟨fun i hi => (o i hi).trans (w.dest i hi), fun j hj => ?_, k :: g, ws, ?_, ?_, ?_⟩
        · exact (ks j fun m => hj (List.mem_of_mem_erase m)).trans (w.key j fun c => hj (c ▸ hk))
        · rw [e']
          simp
        · exact fun j m => List.mem_of_mem_erase (hw j m)
        · intro j m
          rcases List.mem_cons.mp m with rfl | m
          · exact hk
          · exact List.mem_of_mem_erase (hg j m)
      · exact .refl h
    · exact .refl h

/-- A refill grants places to keys that wait at the destination, and does nothing else. -/
theorem Talk.refill_spec {t : Talk} {id : Nat} {d : Dest} (h : t.dest id = some d) (now : Nat) :
    Talk.Refilled t (t.refill now id) id d := by
  simp only [Talk.refill, h]
  exact t.refillN_spec now id _ d h

end Sys2Proof.Machine
end

