-- ==== Sys2Proof/Tests/Slice0.lean ====
section
/-! SUPPORT. Tests: ill-formed commands refused, bytes written out from Tables 11-1 to 11-5 and what they
stand for, worked examples of the spec in one step, and for every statement with hypotheses a concrete
state and operands that meet them. -/

namespace Sys2Proof.Tests

open Sys2Proof Sys2Proof.Machine

/- The kernel evaluates these theorems one after another: side by side they would wait for each other in more
threads than the check's memory holds. -/
set_option Elab.async false

/-! ### WellFormed: an ill-formed command is refused by each check -/

theorem test_wf_byte : (Instr.block (.args 256)).wellFormed = false := by decide
theorem test_wf_word : (Instr.defineDest (.args ⟨0, 0, 0, 0, 0, 0, 0, 0, 65536⟩)).wellFormed = false := by
  decide
theorem test_wf_step : (Instr.findFrequency (.args 16777216)).wellFormed = false := by decide
theorem test_wf_label_char : (Instr.findLabel (.args [256])).wellFormed = false := by decide
theorem test_wf_label_long : (Instr.findLabel (.args (List.replicate 250 65))).wellFormed = false := by
  decide +kernel
theorem test_wf_profile :
    (Instr.loadProfile (.args ⟨0, 0, 0, 256, 0, 0, 0, 0, 0, 0, Tab.fill 8 ⟨0, 0⟩⟩)).wellFormed = false := by
  decide
theorem test_wf_map :
    (Instr.loadTallyMap (.args ⟨0, 0, ⟨0, 0⟩, ⟨0, 256⟩, 0, 0, 0, 0⟩)).wellFormed = false := by decide
theorem test_wf_key : (Instr.defineKey (.args ⟨0, 0, 0, 0, 0, 256, 0⟩)).wellFormed = false := by decide
theorem test_wf_code_known : (Instr.unrecognisedRequest 48).wellFormed = false := by decide
theorem test_wf_code_wide : (Instr.unrecognisedRequest 256).wellFormed = false := by decide
theorem test_wf_framed : (Instr.framingError [3, 1, 5] 0).wellFormed = false := by decide
theorem test_wf_misframed : (Instr.framingError [3, 1] 0).wellFormed = true := by decide
theorem test_wf_timer : (Instr.settleTimerExpiry 160).wellFormed = false := by decide
theorem test_wf_deadline : (Instr.talkDeadlineExpiry 96).wellFormed = false := by decide
theorem test_wf_report_type : (Instr.radioUnknownReportType 17).wellFormed = false := by decide
theorem test_wf_event_type : (Instr.matrixUnknownEventType 34).wellFormed = false := by decide
theorem test_wf_tally_type : (Instr.tallyUnknownMessageType .main 49).wellFormed = false := by decide

/-! ### Bytes written out from Tables 11-1, 11-2 and 11-5 -/

/-- Code 13, length 5: RETUNE of handle 7 to step 66051 (bytes 1, 2, 3), FORCE on. -/
theorem test_wire_retune :
    transactionCommand [13, 5, 7, 1, 2, 3, 1] 0 = some (.retune (.args ⟨7, 66051, 1⟩)) := by decide
/-- ADMIT: kind, class, zones, a label of two characters, policy, the pool marker. -/
theorem test_wire_admit :
    transactionCommand [12, 10, 1, 0, 3, 2, 65, 66, 1, 255, 255, 255] 0
      = some (.admitLink (.args ⟨1, 0, 3, [65, 66], 1, 16777215⟩)) := by decide
/-- A label count that does not match the length byte (R192). -/
theorem test_wire_label_length : transactionCommand [6, 3, 3, 65, 66] 0 = some (.findLabel .badLength) := by
  decide
/-- One bit too many (R180). -/
theorem test_wire_partial :
    transactionCommand [48, 0] 1 = some (.framingError [48, 0] 1) := by decide
/-- TUNED of handle 1 to step 256: type 17, length 4, and the check byte that makes the sum 0. -/
theorem test_wire_tuned :
    (lineMsg [17, 0, 4, 1, 0, 1, 0, 233]).map radioCommand = some (.tuned (.fields ⟨1, 256⟩)) := by decide
/-- The same with a failing check byte (R193). -/
theorem test_wire_bad_sum :
    (lineMsg [17, 0, 4, 1, 0, 1, 0, 234]).map radioCommand = some (.tuned .badSum) := by decide
/-- A tally frame with one program input, 5, and no preview input. -/
theorem test_wire_frame :
    (lineMsg [49, 0, 3, 1, 5, 0, 198]).map (tallyCommand .sub1)
      = some (.tallyFrame .sub1 (.fields ⟨[5], []⟩)) := by decide
theorem test_wire_press :
    (lineMsg [33, 0, 2, 63, 7, 151]).map matrixCommand = some (.press (.fields ⟨63, 7⟩)) := by decide
/-- A TUNE of handle 3 to step 2000 (0, 7, 208), class 1, as it leaves on RTX. -/
theorem test_wire_tune :
    (RackMsg.tune 3 2000 1).bytes = [1, 0, 5, 3, 0, 7, 208, 1, 31] := by decide

/-- Handle 3 (11 in binary) as bit times: the low bits leave first (R193). -/
theorem test_serial_byte :
    serialByte 3 = [.start, .data true, .data true, .data false, .data false, .data false, .data false,
      .data false, .data false, .stop] := by decide
/-- READ SUMMARY (48, length 0) and two bits more, clocked most significant bit first (R180). -/
theorem test_clocked_bytes :
    clockedBytes [false, false, true, true, false, false, false, false, false, false, false, false, false,
      false, false, false, true, true] = ([48, 0], 2) := by decide
/-- Table 5-8: handle 6 on 4200 (0, 16, 104), POLICY, count 1, severity 2, in the order R106 names. -/
theorem test_referral_bytes :
    (Notice.referral 6 4200 (.policy 2) 1).bytes = [6, 6, 0, 16, 104, 0, 1, 2] := by decide
/-- Handle 6, SETTLING, 4200 (0, 16, 104) held with ordinal 0 and 2000 (0, 7, 208) with ordinal 1, each step
before its ordinal (R174). -/
theorem test_carrier_loss_bytes :
    (Notice.carrierLoss 6 .settling [(0, 4200), (1, 2000)]).bytes
      = [9, 6, 5, 2, 0, 16, 104, 0, 0, 7, 208, 1] := by decide
/-- No map: three ABSENT sources and nothing more (R130). -/
theorem test_tally_bytes :
    (RespBody.tally none [⟨.absent, none, [], []⟩, ⟨.live, some 1, [5], []⟩, ⟨.awaiting, none, [], []⟩]).bytes
      = [0, 0, 2, 1, 0, 1, 255, 255, 1, 5, 0, 0, 0] := by decide
/-- SDO is high-impedance until a transaction begins (Table 11-7). -/
theorem test_sdo_idle : State.reset.sdo 0 = .highZ ∧ State.reset.underReset.sdo 0 = .highZ := by decide

/-! ### States -/

/-- A profile: the whole span, channels of 8 MHz, class 0 of half-width 20, class 4 of 1000, Gcc 30. -/
def profileArgs : ProfileArgs :=
  ⟨0, 108000, 0, 8, 30, 10, 10, 0, 1, 10,
    (Tab.fill 8 ()).mapIdx fun i _ => if i = 4 then ⟨1000, 1⟩ else ⟨20, 1⟩⟩

def profileA : Profile := profileStored profileArgs

/-- A CONFIGURED part with nothing on it. -/
def on : State := State.reset.setEngine { State.reset.engine with profile := some profileA }

/-- A MIC link in a state, on step 4000. -/
def mic (st : LinkState) : Link :=
  { Link.free with
    state := st, kind := some .mic, cls := some 0, zones := 1, label := [65], policy := some .refer,
    carrier := some 4000 }

/-- A link of kind `k`, ACTIVE. -/
def active (k : LinkKind) : Link := { mic .active with kind := some k }

/-- A PANEL destination of limit 1 in NESTED mode with rotation on and a talk limit of 10 s. -/
def panelDest : Dest where
  kind := .panel
  target := none
  watch := none
  mode := .nested
  limit := 1
  threshold := none
  rotation := true
  talkLimit := 10
  talking := []
  waiting := []
  requests := []
  rings := Tab.fill 8 []
  routed := true
  restricted := false

/-- A LATCH key of a panel button at destination 31. -/
def panelKey (button level : Nat) (st : KeyState) : Key :=
  ⟨.panel 63 button, 31, level, .latch, st, none⟩

/-- A part whose destination 31 is `d`, with keys 0 and 95. -/
def talkState (d : Dest) (x y : Option Key) : State :=
  on.setTalk (((Talk.setDest on.talk 31 (some d)).setKey 0 x).setKey 95 y)

/-! ### Ways to meet common hypotheses -/

theorem accepts_of {s : State} (a : s.pins = ⟨false, false⟩) (b : s.port = State.reset.port)
    (c : s.engine.profile = some profileA) : s.accepts := by
  unfold State.accepts State.free State.listening State.configured
  rw [a, b, c]
  decide

theorem live_of {s : State} (a : s.pins = ⟨false, false⟩) (c : s.engine.profile = some profileA) :
    s.live := by
  unfold State.live State.configured
  rw [a, c]
  decide

theorem quiet_of_nil {s : State} (h : s.engine.queue = []) : s.quiet := by
  intro _ j e
  simp [h] at e

theorem settled_of {s : State} (h : s.engine.queue = []) (w : s.pool.sweepWanted = false) :
    s.engineSettled := fun _ => ⟨h, w⟩

theorem held_of {s : State} (h : s.radio.cts = false) : s.radioHeld := Or.inr h

/-- The talk lists agree with the keys' states, as a check. -/
def soundCheck (t : Talk) : Bool :=
  ((List.range 32).all fun id => match t.dest id with
    | none => true
    | some d => decide d.talking.Nodup && decide d.waiting.Nodup && decide (d.talking.length ≤ d.limit)
        && (d.talking.all fun k => (t.key k).any fun x => x.dest == id && x.state == .talking)
        && (d.waiting.all fun k => (t.key k).any fun x => x.dest == id && x.state == .waiting))
  && ((List.range 96).all fun k => match t.key k with
    | none => true
    | some x => (x.state != .talking || (t.dest x.dest).any fun d => d.talking.contains k)
        && (x.state != .waiting || (t.dest x.dest).any fun d => d.waiting.contains k))

theorem sound_of {t : Talk} (h : soundCheck t = true) : t.sound := by
  simp only [soundCheck, Bool.and_eq_true, List.all_eq_true, List.mem_range] at h
  refine ⟨fun id d e => ?_, fun k x e => ?_⟩
  · have := h.1 id (Tab.lt_of_get_some e)
    simp only [e, Bool.and_eq_true, List.all_eq_true, decide_eq_true_eq, Option.any_eq_true,
      beq_iff_eq] at this
    exact ⟨this.1.1.1.1, this.1.1.1.2, this.1.1.2, this.1.2, this.2⟩
  · have := h.2 k (Tab.lt_of_get_some e)
    simp only [e, Bool.and_eq_true, Bool.or_eq_true, bne_iff_ne, ne_eq, Option.any_eq_true,
      List.contains_iff_mem] at this
    exact ⟨fun y => this.1.resolve_left fun c => c y, fun y => this.2.resolve_left fun c => c y⟩

/-- Key `a` stands before key `b` in the waiting order, as a check. -/
def beforeCheck (t : Talk) (d : Dest) (a b : Nat) : Bool :=
  decide (t.level a < t.level b) || decide (t.level a = t.level b)
    && if d.rotation then decide ((d.ring (t.level a)).idxOf a < (d.ring (t.level a)).idxOf b)
      else decide (d.requests.idxOf a < d.requests.idxOf b)

theorem waitsBefore_of {t : Talk} {d : Dest} {a b : Nat} (h : beforeCheck t d a b = true) :
    t.waitsBefore d a b := by
  unfold Talk.waitsBefore
  unfold beforeCheck at h
  cases hr : d.rotation <;> simpa [hr] using h

/-- The request orders, the rings and the waiting lists stand in order, as a check. -/
def inOrderCheck (t : Talk) : Bool :=
  ((List.range 32).all fun id => match t.dest id with
    | none => true
    | some d => decide d.requests.Nodup
        && (d.requests.all fun k => d.talking.contains k || d.waiting.contains k)
        && ((d.talking ++ d.waiting).all fun k => d.requests.contains k)
        && ((List.range 8).all fun l => decide (d.ring l).Nodup
            && (d.ring l).all fun k => (t.key k).any fun x => x.dest == id && x.level == l)
        && decide (d.waiting.Pairwise fun a b => beforeCheck t d a b = true))
  && ((List.range 96).all fun k => match t.key k with
    | none => true
    | some x => decide (x.level ≤ 7) && (t.dest x.dest).any fun d => (d.ring x.level).contains k)

theorem ring_high (d : Dest) {l : Nat} (h : 8 ≤ l) : d.ring l = [] := by
  have : d.rings.rows.length ≤ l := by rw [d.rings.size]; exact h
  simp [Dest.ring, Tab.get, List.getD_eq_getElem?_getD, List.getElem?_eq_none this]

theorem inOrder_of {t : Talk} (h : inOrderCheck t = true) : t.inOrder := by
  simp only [inOrderCheck, Bool.and_eq_true, List.all_eq_true, List.mem_range] at h
  have key : ∀ k x, t.key k = some x →
      x.level ≤ 7 ∧ ∃ d, t.dest x.dest = some d ∧ k ∈ d.ring x.level := by
    intro k x e
    have := h.2 k (Tab.lt_of_get_some e)
    simp only [e, Bool.and_eq_true, decide_eq_true_eq, Option.any_eq_true,
      List.contains_iff_mem] at this
    exact this
  refine ⟨fun id d e => ?_, fun k x e => ⟨(key k x e).1, ?_⟩⟩
  · have := h.1 id (Tab.lt_of_get_some e)
    simp only [e, Bool.and_eq_true, List.all_eq_true, decide_eq_true_eq, Bool.or_eq_true,
      List.contains_iff_mem, List.mem_append, List.mem_range, Option.any_eq_true, beq_iff_eq] at this
    obtain ⟨⟨⟨⟨nodup, covered⟩, covers⟩, rings⟩, order⟩ := this
    refine ⟨nodup, fun k => ⟨covered k, covers k⟩, fun l => ?_, order.imp waitsBefore_of⟩
    rcases Nat.lt_or_ge l 8 with c | c
    · refine ⟨(rings l c).1, fun k => ⟨(rings l c).2 k, ?_⟩⟩
      rintro ⟨x, hx, rfl, rfl⟩
      obtain ⟨-, d', hd, hm⟩ := key k x hx
      rw [e] at hd
      cases hd
      exact hm
    · rw [ring_high d c]
      refine ⟨List.nodup_nil, fun k => ⟨fun m => absurd m (by simp), ?_⟩⟩
      rintro ⟨x, hx, -, rfl⟩
      have := (key k x hx).1
      omega
  · obtain ⟨-, d, hd, -⟩ := key k x e
    simp [hd]

/-- The state a command leaves. -/
def after (c : Instr) (s : State) : State :=
  match exec c s with
  | .next t => t
  | .fault _ => s
  | .refused _ => s

theorem on_accepts : on.accepts := accepts_of rfl rfl rfl

theorem on_settled : on.engineSettled := settled_of rfl rfl

/-- A part with one link at handle 159. -/
def withMic (l : Link) : State := on.setLink 159 l

theorem withMic_accepts (l : Link) : (withMic l).accepts := accepts_of rfl rfl rfl
theorem withMic_live (l : Link) : (withMic l).live := live_of rfl rfl
theorem withMic_quiet (l : Link) : (withMic l).quiet := quiet_of_nil rfl
theorem withMic_settled (l : Link) : (withMic l).engineSettled := settled_of rfl rfl
theorem withMic_held (l : Link) : (withMic l).radioHeld := held_of rfl

/-! ### Worked examples of the spec, one step each -/

/-- Table 1-7: BLOCK (1) with link 3 on step 2000 names it. -/
theorem test_block_conflict :
    ((on.setLink 3 { mic .active with carrier := some 2000 }).lowestTouching 1).map Party.at
      = some (.carrierAt 3 0 2000) := by decide +kernel
/-- Table 1-5: step 1620 of class 0 touches channel 1 and not channel 0. -/
theorem test_touches :
    profileA.touches 1620 20 0 = false ∧ profileA.touches 1620 20 1 = true
      ∧ profileA.touches 1590 20 0 = true := by decide
/-- Table 1-7: slot 1's spacing to link 3 is 1190 against 70, a margin of 1120. -/
theorem test_spacing_margin :
    (spacingTerm 30 (candidate profileA none 3190 0 1)
      ⟨.held 3 0, some 3, 2000, 20, true, 1⟩).map (·.margin) = some 1120 := by decide

/-! ### Witnesses: the step, the pins and the port -/

theorem witness_IdleStepTicks :
    State.reset.pending = [] ∧ State.reset.pins.inReset = false
      ∧ State.reset.underReset.pending = [] ∧ State.reset.underReset.pins.inReset = true :=
  ⟨rfl, rfl, rfl, rfl⟩

theorem witness_ResetPinActs :
    on.underReset.pins.inReset = true ∧ Instr.collect.onPin = false
      ∧ (on.setPins ⟨false, true⟩).pins = ⟨false, true⟩
      ∧ (Instr.block (.args 95)).request = some (3, true) := ⟨rfl, rfl, rfl, rfl⟩

theorem witness_UnconfiguredTurnsAway :
    State.reset.free ∧ State.reset.configured = false
      ∧ (Instr.readPlan .badLength).request = some (47, false)
      ∧ State.reset.pins.inReset = false := by
  unfold State.free State.listening
  decide

theorem witness_RequestsAreScreened :
    (on.respond 48 .ok .empty).listening ∧ (on.respond 48 .ok .empty).port.owed.isSome = true
      ∧ State.reset.free ∧ on.free ∧ on.configured = true
      ∧ (Instr.readSummary .badLength).request = some (48, false) := by
  unfold State.free State.listening
  decide

theorem witness_EveryTakenRequestAnswers :
    on.free ∧ (Instr.unrecognisedRequest 255).request = some (255, true) := ⟨on_accepts.1, rfl⟩

theorem witness_RefusalChangesNothing :
    on.free ∧ exec (.block (.args 96)) on = .next (on.respond 3 .badArgument .empty)
      ∧ (on.respond 3 .badArgument .empty).port.owed = some ⟨3, .badArgument, .empty⟩
      ∧ Status.badArgument ≠ .ok ∧ Status.badArgument ≠ .queued :=
  ⟨on_accepts.1, rfl, rfl, by decide, by decide⟩

/-- A notice of ten bytes is presented; 12 bytes are clocked, and 11. -/
theorem witness_CollectsPresentAndConsume :
    on.pins.inReset = false ∧ on.pins.selHeld = false ∧ on.port.transaction ≠ .collect
      ∧ (on.respond 48 .ok .empty).port.owed = some ⟨48, .ok, .empty⟩
      ∧ (on.notify (.sourceLive .main)).port.owed = none
      ∧ (on.notify (.sourceLive .main)).port.notices = .sourceLive .main :: []
      ∧ (on.setPort (on.notify (.sourceLive .main)).port.present).port.presented
          = some (.notice (.sourceLive .main))
      ∧ 2 + (Item.notice (.sourceLive .main)).contents.length = 4 := by decide

theorem witness_ReadSummaryReports :
    State.reset.free ∧ State.reset.configured = false ∧ on.free ∧ on.configured = true := by
  unfold State.free State.listening
  decide

/-! ### Witnesses: chapter 1 -/

theorem witness_LoadProfileInstalls :
    State.reset.free ∧ profileBadField profileArgs = none ∧ State.reset.configured = false
      ∧ on.free ∧ on.occupied = [] ∧ (∀ h, h < 160 → (on.link h).state ≠ .checking)
      ∧ on.engine.queue = [] := by
  unfold State.free State.listening
  decide +kernel

theorem witness_StoredProfileInRange : profileBadField profileArgs = none := by decide

theorem witness_BlockAndUnblockChannels :
    on.accepts ∧ on.engine.blocked.get 95 false = false ∧ on.occupied = []
      ∧ (withMic (mic .active)).accepts
      ∧ (withMic (mic .active)).occupied.find?
            (fun c => (withMic (mic .active)).engine.prof.touches c.step c.half 2)
          = some ⟨.held 159 0, some 159, 4000, 20, true, 1⟩
      ∧ (on.setEngine { on.engine with blocked := on.engine.blocked.set 95 true }).accepts
      ∧ (on.setEngine { on.engine with blocked := on.engine.blocked.set 95 true }).engine.blocked.get 95
          false = true
      ∧ (on.setEngine { on.engine with blocked := on.engine.blocked.set 95 true }).quiet :=
  ⟨on_accepts, by decide, by decide +kernel, withMic_accepts _, by decide +kernel,
    accepts_of rfl rfl rfl, by decide, quiet_of_nil rfl⟩

/-! ### Witnesses: lookups -/

theorem witness_LookupsOnlyAnswer :
    (Instr.queryLink .badLength).lookup = true ∧ (Instr.queryLink .badLength).request = some (5, false)
      ∧ State.reset.free := by
  unfold State.free State.listening
  decide

theorem witness_TableReadsAnswer :
    (talkState panelDest (some (panelKey 7 7 .idle)) none).accepts
      ∧ (talkState panelDest (some (panelKey 7 7 .idle)) none).talk.dest 31 = some panelDest
      ∧ (talkState panelDest (some (panelKey 7 7 .idle)) none).talk.dest 0 = none
      ∧ (talkState panelDest (some (panelKey 7 7 .idle)) none).talk.key 0 = some (panelKey 7 7 .idle) :=
  ⟨accepts_of rfl rfl rfl, by decide, by decide, by decide⟩

theorem witness_FindLabelAnswers :
    (withMic (mic .checking)).accepts ∧ labelOk [] = false ∧ labelOk [65] = true
      ∧ ((withMic (mic .checking)).link 159).state ≠ .free
      ∧ ((withMic (mic .checking)).link 159).label = [65]
      ∧ (∀ g, g < 160 → (on.link g).state = .free ∨ (on.link g).label ≠ [65]) :=
  ⟨withMic_accepts _, by decide, by decide, by decide +kernel, by decide +kernel, by decide +kernel⟩

theorem witness_FindBindingAnswers :
    (withMic { mic .active with bindings := [⟨.sub2, 24⟩] }).accepts ∧ sourceOf 2 = some .sub2
      ∧ sourceInputs .sub2 = 24
      ∧ ⟨.sub2, 24⟩ ∈ ((withMic { mic .active with bindings := [⟨.sub2, 24⟩] }).link 159).bindings
      ∧ (∀ g, g < 160 → (⟨.sub2, 24⟩ : Binding) ∉ (on.link g).bindings) :=
  ⟨withMic_accepts _, by decide, by decide, by decide +kernel, by decide +kernel⟩

theorem witness_FindFrequencyAndListLinks :
    on.accepts ∧ (512#16).setWidth 10 ≠ 0 ∧ (64512#16).setWidth 10 = 0 := ⟨on_accepts, by decide, by decide⟩

/-! ### Witnesses: chapters 2 and 4 -/

theorem witness_LabelAndPolicy :
    (withMic (mic .lost)).accepts ∧ labelOk [65] = true ∧ labelOk [66] = true
      ∧ ((withMic (mic .lost)).link 159).state.occupied = true
      ∧ ((withMic (mic .lost)).link 159).label = [65]
      ∧ (∀ g, g < 160 → ((withMic (mic .lost)).link g).state = .free
          ∨ ((withMic (mic .lost)).link g).label ≠ [66])
      ∧ ((withMic (mic .checking)).link 159).state = .checking ∧ (on.link 159).state = .free
      ∧ (((withMic (mic .lost)).setLink 0 { mic .checking with label := [66] }).link 0).label = [66] :=
  ⟨withMic_accepts _, by decide, by decide, by decide +kernel, by decide +kernel, by decide +kernel,
    by decide +kernel, by decide +kernel, by decide +kernel⟩

/-- Handle 0 is occupied, so handle 1 is taken. -/
theorem witness_AdmitTakesLowestFree :
    (on.setLink 0 (mic .active)).accepts ∧ linkKindOf 4 = some .base ∧ labelOk [126] = true
      ∧ policyOf 2 = some .none
      ∧ (∀ g, g < 160 → ((on.setLink 0 (mic .active)).link g).state = .free
          ∨ ((on.setLink 0 (mic .active)).link g).label ≠ [126])
      ∧ ((on.setLink 0 (mic .active)).link 1).state = .free
      ∧ (∀ g, g < 1 → ((on.setLink 0 (mic .active)).link g).state ≠ .free)
      ∧ (on.setLink 0 (mic .active)).engine.queue.length < 12
      ∧ (on.setLink 0 (mic .active)).startsOrWaits ⟨.admission, 1, some 108000, 7, 255, false, false⟩ :=
  ⟨accepts_of rfl rfl rfl, by decide, by decide, by decide, by decide +kernel, by decide +kernel,
    by decide +kernel, by decide, Or.inr ⟨rfl, Or.inl rfl⟩⟩

theorem witness_RetuneFamilyOffersJobs :
    (withMic (mic .referred)).accepts ∧ (withMic (mic .referred)).engine.queue.length < 12
      ∧ ((withMic (mic .referred)).link 159).state = .referred
      ∧ ((withMic (mic .active)).link 159).state = .active
      ∧ (withMic (mic .referred)).startsOrWaits ⟨.retune, 159, some 108000, 0, 1, true, false⟩
      ∧ (withMic (mic .active)).startsOrWaits ⟨.move, 159, some 4000, 0, 255, false, false⟩ :=
  ⟨withMic_accepts _, by decide, by decide +kernel, by decide +kernel, Or.inr ⟨rfl, Or.inl rfl⟩,
    Or.inr ⟨rfl, Or.inl rfl⟩⟩

theorem witness_PoolJobWithoutSpare :
    on.accepts ∧ on.engine.work = .idle ∧ on.engine.queue = []
      ∧ admitArgsOk ⟨4, 7, 1, [33], 2, 16777215⟩ = true ∧ (on.link 0).state = .free
      ∧ (∀ g, g < 160 → (on.link g).state = .free ∨ (on.link g).label ≠ [33])
      ∧ on.pool.pick ⟨.admissionPool, 0, none, 7, 1, false, false⟩ = none
      ∧ (withMic (mic .active)).accepts ∧ ((withMic (mic .active)).link 159).state = .active
      ∧ (withMic (mic .active)).pool.pick ⟨.retunePool, 159, none, 0, 1, true, false⟩ = none :=
  ⟨on_accepts, rfl, rfl, by decide, by decide, by decide +kernel, by decide +kernel, withMic_accepts _,
    by decide +kernel, by decide +kernel⟩

theorem witness_CancelAndTuneNow :
    (withMic (mic .retuneWait)).accepts ∧ (withMic (mic .retuneWait)).quiet
      ∧ ((withMic (mic .retuneWait)).link 159).state = .retuneWait
      ∧ ((withMic (mic .settling)).link 159).state = .settling
      ∧ ((withMic (mic .lost)).link 159).state = .lost :=
  ⟨withMic_accepts _, withMic_quiet _, by decide +kernel, by decide +kernel, by decide +kernel⟩

theorem witness_RetireByState :
    (∀ st, (withMic (mic st)).accepts ∧ (withMic (mic st)).engineSettled
      ∧ ((withMic (mic st)).link 159).state = st)
      ∧ (withMic (mic .active)).onAir 159 = false
      ∧ (withMic { mic .active with holdLive := true }).onAir 159 = true
      ∧ ((withMic { mic .active with holdLive := true }).link 159).state = .active :=
  ⟨fun st => ⟨withMic_accepts _, withMic_settled _, by cases st <;> decide +kernel⟩, by decide +kernel,
    by decide +kernel, by decide +kernel⟩

theorem witness_FreeingEvents :
    (withMic (mic .lost)).quiet ∧ (withMic (mic .lost)).talk.sound ∧ (withMic (mic .lost)).live
      ∧ (withMic (mic .lost)).accepts ∧ ((withMic (mic .lost)).link 159).state = .lost
      ∧ (withMic (mic .releasing)).live ∧ ((withMic (mic .releasing)).link 159).state = .releasing
      ∧ ((withMic (mic .active)).link 159).state = .active :=
  ⟨withMic_quiet _, sound_of (by decide +kernel), withMic_live _, withMic_accepts _, by decide +kernel,
    withMic_live _, by decide +kernel, by decide +kernel⟩

theorem witness_LinkTimerExpiries :
    (withMic (mic .settling)).pins.inReset = false ∧ (∀ l, (withMic l).quiet)
      ∧ ((withMic { mic .settling with timer := some ⟨.settle, 100⟩ }).link 159).timer
          = some ⟨.settle, 100⟩
      ∧ ((withMic { mic .settling with carrier := none, tries := 1 }).link 159).carrier = none
      ∧ ((withMic { mic .reverting with timer := some ⟨.settle, 0⟩ }).link 159).state = .reverting
      ∧ ((withMic { mic .releasing with timer := some ⟨.release, 0⟩ }).link 159).timer
          = some ⟨.release, 0⟩
      ∧ ((withMic { mic .releasing with timer := some ⟨.release, 0⟩ }).link 159).state = .releasing
      ∧ ((withMic { mic .releasing with timer := some ⟨.release, 0⟩ }).link 159).tries = 0
      ∧ ((withMic { mic .referred with timer := some ⟨.referral, 0⟩ }).link 159).timer
          = some ⟨.referral, 0⟩
      ∧ ((withMic { mic .referred with timer := some ⟨.referral, 0⟩ }).link 159).state = .referred :=
  ⟨rfl, fun _ => withMic_quiet _, by decide +kernel, by decide +kernel, by decide +kernel,
    by decide +kernel, by decide +kernel, by decide +kernel, by decide +kernel, by decide +kernel⟩

theorem witness_TunedIsMatched :
    (withMic (mic .settling)).live ∧ (withMic (mic .settling)).engineSettled
      ∧ ((withMic (mic .settling)).link 159).state = .settling
      ∧ (withMic (mic .settling)).quiet ∧ ((withMic (mic .settling)).link 159).carrier = some 4000
      ∧ ((withMic { mic .settling with carrier := none, target := some 108000 }).link 159).target
          = some 108000
      ∧ ((withMic { mic .settling with target := some 5000 }).link 159).target = some 5000
      ∧ ((withMic (mic .active)).link 159).state = .active :=
  ⟨withMic_live _, withMic_settled _, by decide +kernel, withMic_quiet _, by decide +kernel, by decide +kernel, by decide +kernel,
    by decide +kernel⟩

/-! ### Witnesses: chapters 3 and 5 -/

/-- A part whose engine runs the first of these jobs against an empty occupied set. -/
def running (l : Link) (trial : Option Nat) (failures : Nat) (js : List Job) : State :=
  (withMic l).setEngine { on.engine with queue := js, work := .job [] trial failures }

/-- A job of the link at handle 159. -/
def jobAt (kind : JobKind) (step : Option Nat) (void : Bool) : Job :=
  ⟨kind, 159, step, 0, 1, false, void⟩

theorem calm_nil : calmRest [] := by simp [calmRest]

/-- The two outcomes of a check: step 5000 passes with nothing to meet, step 10 breaks the span. -/
theorem witness_CheckCompletionDelivers :
    (running (mic .checking) none 0 [jobAt .admission (some 5000) false]).pins.inReset = false
      ∧ (running (mic .checking) none 0 [jobAt .admission (some 5000) false]).engine.work
          = .job [] none 0
      ∧ (running (mic .checking) none 0 [jobAt .admission (some 5000) false]).engine.queue
          = jobAt .admission (some 5000) false :: []
      ∧ calmRest []
      ∧ ((running (mic .checking) none 0 [jobAt .admission (some 5000) false]).link 159).state = .checking
      ∧ (running (mic .checking) none 0 [jobAt .admission (some 5000) false]).check []
            ((running (mic .checking) none 0 []).jobCandidate (jobAt .admission (some 5000) false) 5000)
          = .pass 65535 none
      ∧ (running (mic .checking) none 0 [jobAt .admission (some 10) false]).check []
            ((running (mic .checking) none 0 []).jobCandidate (jobAt .admission (some 10) false) 10)
          = .fail (.span .low 0)
      ∧ ((running { mic .recheck with job := some .retune } none 0
            [jobAt .retune (some 5000) false]).link 159).state = .recheck
      ∧ ((running { mic .recheck with job := some .move } none 0
            [jobAt .move (some 4000) false]).link 159).job = some .move :=
  ⟨rfl, rfl, rfl, calm_nil, by decide +kernel, by decide +kernel, by decide +kernel, by decide +kernel,
    by decide +kernel⟩

theorem witness_PassMeansClear :
    check profileA (Tab.fill 96 false) [⟨.held 159 0, some 159, 4000, 20, true, 1⟩]
      (candidate profileA (some 0) 4070 0 1) = .pass 0 (some ⟨.spacing, [.held 159 0]⟩)
    ∧ check profileA (Tab.fill 96 false) [⟨.held 159 0, some 159, 4000, 20, true, 1⟩]
      (candidate profileA (some 0) 4069 0 1) = .fail (.term ⟨.spacing, [.held 159 0]⟩)
    ∧ (candidate profileA (some 0) 4069 0 1).key = .candidate
    ∧ [(⟨.held 0 1, some 0, 9000, 20, true, 1⟩ : Party), ⟨.held 159 0, some 159, 4000, 20, true, 1⟩].Pairwise
      (fun a b => a.key.before b.key = true) := by
  decide +kernel

/-- A spare of class 0. -/
def spareAt (step : Nat) (st : SpareStatus) (u : InUse) : Spare := ⟨step, 0, 255, st, none, u⟩

/-- A running pool job with the spare of slot 31 under trial and another in slot 0. -/
def onTrial (step failures : Nat) (j : Job) : State :=
  (running { mic .recheck with job := some .auto } (some 31) failures [j]).setPool
    ((on.pool.setSlot 31 (some (spareAt step .unchecked .trial))).setSlot 0
      (some (spareAt 7000 .unchecked .none)))

theorem witness_TrialEnds :
    (onTrial 5000 0 (jobAt .auto none false)).pins.inReset = false
      ∧ (onTrial 5000 0 (jobAt .auto none false)).engine.work = .job [] (some 31) 0
      ∧ (onTrial 5000 0 (jobAt .auto none false)).engine.queue = jobAt .auto none false :: []
      ∧ calmRest []
      ∧ (onTrial 5000 0 (jobAt .auto none false)).pool.slots.get 31 none
          = some (spareAt 5000 .unchecked .trial)
      ∧ (onTrial 5000 0 (jobAt .auto none false)).check []
            ((onTrial 5000 0 (jobAt .auto none false)).jobCandidate (jobAt .auto none false) 5000)
          = .pass 65535 none
      ∧ (onTrial 10 2 (jobAt .auto none false)).check []
            ((onTrial 10 2 (jobAt .auto none false)).jobCandidate (jobAt .auto none false) 10)
          = .fail (.span .low 0)
      ∧ ((onTrial 10 2 (jobAt .auto none false)).pool.setSlot 31 (some { spareAt 10 .unchecked .trial with
            status := .spoiled, margin := none, inUse := .none })).pick (jobAt .auto none false) = some 0
      ∧ ((onTrial 10 3 (jobAt .auto none false)).link 159).state = .recheck
      ∧ ((onTrial 10 3 (jobAt .auto none false)).link 159).job = some .auto
      ∧ ((running (mic .checking) (some 31) 3 []).link 159).state = .checking
      ∧ (onTrial 10 0 { jobAt .auto none false with cls := 1 }).engine.queue
          = { jobAt .auto none false with cls := 1 } :: []
      ∧ (onTrial 10 0 { jobAt .auto none false with cls := 1 }).check []
            ((onTrial 10 0 { jobAt .auto none false with cls := 1 }).jobCandidate
              { jobAt .auto none false with cls := 1 } 10)
          = .fail (.span .low 0)
      ∧ ((onTrial 10 0 { jobAt .auto none false with cls := 1 }).pool.setSlot 31
            (some { spareAt 10 .unchecked .trial with
              status := .spoiled, margin := none, inUse := .none })).pick
          { jobAt .auto none false with cls := 1 } = none
      ∧ (onTrial 5000 0 (jobAt .auto none true)).engine.queue = jobAt .auto none true :: []
      ∧ (jobAt .auto none true).void = true :=
  ⟨rfl, rfl, rfl, calm_nil, by decide +kernel, by decide +kernel, by decide +kernel, by decide +kernel,
    by decide +kernel, by decide +kernel, by decide +kernel, rfl, by decide +kernel, by decide +kernel,
    rfl, rfl⟩

/-- A sweep unit over slot 31. -/
def sweeping (step : Nat) (u : InUse) : State :=
  (on.setPool (on.pool.setSlot 31 (some (spareAt step .spoiled u)))).setEngine
    { on.engine with work := .sweep [] 31 (candidate profileA none step 0 255) }

theorem witness_SweepUnitApplies :
    (sweeping 5000 .sweep).pins.inReset = false
      ∧ (sweeping 5000 .sweep).engine.work = .sweep [] 31 (candidate profileA none 5000 0 255)
      ∧ calmRest (sweeping 5000 .sweep).engine.queue
      ∧ (sweeping 5000 .sweep).pool.slots.get 31 none = some (spareAt 5000 .spoiled .sweep)
      ∧ (sweeping 5000 .sweep).check [] (candidate profileA none 5000 0 255) = .pass 65535 none
      ∧ (sweeping 10 .sweep).check [] (candidate profileA none 10 0 255) = .fail (.span .low 0)
      ∧ (sweeping 5000 .none).pool.slots.get 31 none = some (spareAt 5000 .spoiled .none) :=
  ⟨rfl, rfl, calm_nil, by decide +kernel, by decide +kernel, by decide +kernel, by decide +kernel⟩

/-- A part with channel 95 blocked and one spare, in slot 31, on step 5000, whose channel is 3. -/
def pooled (st : SpareStatus) : State :=
  (on.setEngine { on.engine with blocked := on.engine.blocked.set 95 true }).setPool
    (on.pool.setSlot 31 (some (spareAt 5000 st .none)))

/-- An event that sets sweep-wanted meets an IDLE engine with an empty queue, over a pool of CLEAR spares and
over one with a spare to judge, and an engine at work. -/
theorem witness_SweepAsked :
    (∀ st, (pooled st).accepts ∧ (pooled st).quiet ∧ (pooled st).engine.work = .idle
        ∧ (pooled st).engine.queue = [] ∧ (pooled st).engine.blocked.get 95 false = true)
      ∧ (∀ i, i < 32 → ∀ sp, sp ∈ (pooled .clear).pool.slots.get i none → sp.status = .clear)
      ∧ (pooled .spoiled).pool.slots.get 31 none = some (spareAt 5000 .spoiled .none)
      ∧ (∀ i, i < 31 → (pooled .spoiled).pool.slots.get i none = none)
      ∧ (running (mic .active) none 0 [jobAt .auto none true]).engine.work ≠ .idle :=
  ⟨fun st => ⟨accepts_of rfl rfl rfl, quiet_of_nil rfl, rfl, rfl, by cases st <;> decide⟩, by decide +kernel,
    by decide +kernel, by decide +kernel, by decide⟩

/-- UNBLOCK with an IDLE engine starts a unit over the SPOILED spare in the same event (R16, R43). -/
theorem test_unblock_sweeps :
    (after (.unblock (.args 95)) (pooled .spoiled)).engine.work
      = .sweep [] 31 (candidate profileA none 5000 0 255) := by decide +kernel

/-- Blocking the channel of the only CLEAR spare takes the count to 0, at the threshold of 0 (R15, R101). -/
theorem test_block_pool_low :
    (after (.block (.args 3)) (pooled .clear)).port.notices = [.poolLow 0 0]
      ∧ (after (.block (.args 3)) (pooled .clear)).pool.armed = false := by decide +kernel

/-- A retune of the link to 5000 runs while the pool holds two CLEAR spares and one that is not. -/
def retuning : State :=
  (running { mic .recheck with job := some .retune } none 0 [jobAt .retune (some 5000) false]).setPool
    (((on.pool.setSlot 0 (some (spareAt 5069 .clear .none))).setSlot 1
      (some (spareAt 9000 .clear .none))).setSlot 31 (some (spareAt 5000 .unchecked .none)))

/-- The spare 69 from the new carrier, against a requirement of 70, is SPOILED, and the one far from it keeps
CLEAR; one that is not CLEAR is not judged (R95). -/
theorem test_recheck :
    ((after .checkCompletion retuning).pool.slots.get 0 none).map (·.status) = some .spoiled
      ∧ ((after .checkCompletion retuning).pool.slots.get 1 none).map (·.status) = some .clear
      ∧ ((after .checkCompletion retuning).pool.slots.get 31 none).map (·.status) = some .unchecked := by
  decide +kernel

/-- Both outcomes of the judgement that R95 makes after a PASS. -/
theorem witness_CheckCompletionDelivers_recheck :
    retuning.pins.inReset = false ∧ retuning.engine.work = .job [] none 0
      ∧ retuning.engine.queue = jobAt .retune (some 5000) false :: [] ∧ calmRest []
      ∧ retuning.check [] (retuning.jobCandidate (jobAt .retune (some 5000) false) 5000)
          = .pass 65535 none
      ∧ retuning.pool.slots.get 0 none = some (spareAt 5069 .clear .none)
      ∧ retuning.pool.slots.get 1 none = some (spareAt 9000 .clear .none)
      ∧ retuning.pool.slots.get 31 none = some (spareAt 5000 .unchecked .none)
      ∧ (after .checkCompletion retuning).check (after .checkCompletion retuning).occupied
          (candidate profileA none 5069 0 255) = .fail (.term ⟨.spacing, [.held 159 1]⟩)
      ∧ (∃ m tm, (after .checkCompletion retuning).check (after .checkCompletion retuning).occupied
          (candidate profileA none 9000 0 255) = .pass m tm)
      ∧ (after .checkCompletion retuning).pool.clearCount ≠ retuning.pool.clearCount
      ∧ (sweeping 10 .sweep).pool.clearCount = (after .sweepUnitCompletion (sweeping 10 .sweep)).pool.clearCount
      ∧ (sweeping 5000 .sweep).pool.clearCount
          ≠ (after .sweepUnitCompletion (sweeping 5000 .sweep)).pool.clearCount :=
  ⟨rfl, rfl, rfl, calm_nil, by decide +kernel, by decide +kernel, by decide +kernel, by decide +kernel,
    by decide +kernel, ⟨3930, some ⟨.spacing, [.held 159 1]⟩, by decide +kernel⟩, by decide +kernel,
    by decide +kernel, by decide +kernel⟩

/-- A RECHECK link's job runs, or waits behind a void one, or behind a sweep unit. -/
theorem witness_RetireByState_jobs :
    (∀ js, (running { mic .recheck with job := some .retune } none 0 js).accepts
        ∧ (running { mic .recheck with job := some .retune } none 0 js).engine.work = .job [] none 0
        ∧ (running { mic .recheck with job := some .retune } none 0 js).engine.queue = js
        ∧ (running { mic .recheck with job := some .retune } none 0 js).engineSettled)
      ∧ ((running { mic .recheck with job := some .retune } none 0 []).link 159).state = .recheck
      ∧ (running { mic .recheck with job := some .retune } none 0 []).onAir 159 = false
      ∧ (jobAt .retune (some 5000) false).handle = 159 ∧ (jobAt .retune (some 5000) false).void = false
      ∧ { jobAt .retune (some 5000) false with handle := 0 }.handle ≠ 159
      ∧ (∀ occ trial failures, (sweeping 5000 .sweep).engine.work ≠ .job occ trial failures) :=
  ⟨fun _ => ⟨accepts_of rfl rfl rfl, rfl, rfl, fun h => by cases h⟩, by decide +kernel,
    by decide +kernel, rfl, rfl, by decide, fun _ _ _ h => by cases h⟩

/-- Of the jobs that wait, the link's own leaves, and the others keep their order (R62). -/
theorem test_retire_voids_waiting :
    ((after (.retire (.args ⟨159, 0⟩)) (running { mic .recheck with job := some .retune } none 0
        [{ jobAt .retune (some 1) false with handle := 0 }, jobAt .retune (some 5000) false,
          { jobAt .retune (some 2) false with handle := 1 }])).engine.queue.map (·.handle)) = [0, 1] := by
  decide +kernel

/-- Slot 0 is taken, so slot 1 is filled. -/
theorem witness_SpareRequests :
    (on.setPool (on.pool.setSlot 0 (some (spareAt 5000 .clear .trial)))).accepts
      ∧ (on.setPool (on.pool.setSlot 0 (some (spareAt 5000 .clear .trial)))).engineSettled
      ∧ (∀ k sp, (on.setPool (on.pool.setSlot 0 (some (spareAt 5000 .clear .trial)))).pool.slots.get k
          none = some sp → sp.step ≠ 108000)
      ∧ (on.setPool (on.pool.setSlot 0 (some (spareAt 5000 .clear .trial)))).pool.slots.get 1 none = none
      ∧ (on.setPool (on.pool.setSlot 0 (some (spareAt 5000 .clear .trial)))).pool.slots.get 0 none
          = some (spareAt 5000 .clear .trial)
      ∧ (on.setPool (on.pool.setSlot 31 (some (spareAt 5000 .clear .none)))).pool.slots.get 31 none
          = some (spareAt 5000 .clear .none) := by
  refine ⟨accepts_of rfl rfl rfl, settled_of rfl rfl, ?_, by decide +kernel, by decide +kernel,
    by decide +kernel⟩
  intro k sp e
  have small : ∀ i, i < 32 → ∀ x, x ∈ (on.setPool (on.pool.setSlot 0
      (some (spareAt 5000 .clear .trial)))).pool.slots.get i none → x.step ≠ 108000 := by decide +kernel
  exact small k (Tab.lt_of_get_some e) sp e

theorem witness_SetPoolThresholdActs :
    (on.setPool (on.pool.setSlot 0 (some (spareAt 5000 .clear .none)))).accepts
      ∧ min 0 32 < (on.setPool (on.pool.setSlot 0 (some (spareAt 5000 .clear .none)))).pool.clearCount
      ∧ (on.setPool (on.pool.setSlot 0 (some (spareAt 5000 .clear .none)))).pool.clearCount ≤ min 1 32 :=
  ⟨accepts_of rfl rfl rfl, by decide +kernel, by decide +kernel⟩

theorem witness_DeclineReferralActs :
    (withMic (mic .referred)).accepts ∧ ((withMic (mic .referred)).link 159).state = .referred
      ∧ ((withMic (mic .referred)).link 0).state ≠ .referred :=
  ⟨withMic_accepts _, by decide +kernel, by decide +kernel⟩

theorem witness_InterferenceByPolicy :
    (∀ l, (withMic l).live ∧ (withMic l).quiet)
      ∧ (∀ p, ((withMic { mic .active with policy := some p }).link 159).policy = some p)
      ∧ ((withMic (mic .active)).link 159).state = .active
      ∧ ((withMic (mic .recheck)).link 159).state = .recheck
      ∧ (withMic { mic .active with policy := some .auto }).engine.queue.length < 12
      ∧ 12 ≤ (running (mic .active) none 0 (List.replicate 12 (jobAt .auto none true))).engine.queue.length
      ∧ (running (mic .active) none 0 []).startsOrWaits (jobAt .auto none false) :=
  ⟨fun _ => ⟨withMic_live _, withMic_quiet _⟩, fun p => by cases p <;> decide +kernel, by decide +kernel,
    by decide +kernel, by decide, by decide, Or.inl (by decide)⟩

/-! ### Witnesses: chapter 6 -/

/-- S1 feeds input 48 of M, with a liveness of 10 units. -/
def mapArgs : MapArgs := ⟨1, 0, ⟨0, 48⟩, ⟨255, 0⟩, 10, 0, 0, 1⟩

def mapA : TallyMap := ⟨some (.into .main 48), none, 10, 0, 0, true⟩

/-- A part with that map, and M in the state given. -/
def tallied (l : Link) (v : Src) : State :=
  (withMic l).setTally ⟨some mapA, v, Src.awaiting, Src.absent⟩

theorem tallied_accepts (l : Link) (v : Src) : (tallied l v).accepts := accepts_of rfl rfl rfl

theorem witness_TallyMapRequests :
    on.accepts ∧ on.quiet ∧ mapJudge mapArgs = .stored mapA
      ∧ (tallied (mic .active) Src.awaiting).accepts ∧ (tallied (mic .active) Src.awaiting).quiet
      ∧ sourceOf 1 = some .sub1 ∧ (tallied (mic .active) Src.awaiting).tally.present .sub1 = true
      ∧ sourceOf 2 = some .sub2 ∧ (tallied (mic .active) Src.awaiting).tally.present .sub2 = false
      ∧ ((tallied { mic .active with bindings := [⟨.sub1, 24⟩] } Src.awaiting).link 159).boundThrough
          (tallied (mic .active) Src.awaiting).tally .main = true :=
  ⟨on_accepts, quiet_of_nil rfl, by decide, tallied_accepts _ _, quiet_of_nil rfl, rfl, by decide, rfl,
    by decide, by decide +kernel⟩

theorem witness_BindingRequests :
    (∀ l, (tallied l Src.awaiting).accepts ∧ (tallied l Src.awaiting).quiet)
      ∧ bindingOf 0 48 = some ⟨.main, 48⟩
      ∧ (tallied (mic .lost) Src.awaiting).tally.present .main = true
      ∧ ((tallied (mic .lost) Src.awaiting).link 159).state.occupied = true
      ∧ ((tallied (mic .lost) Src.awaiting).link 159).bindings.length < 2
      ∧ (∀ g, g < 160 → (⟨.main, 48⟩ : Binding) ∉ ((tallied (mic .lost) Src.awaiting).link g).bindings)
      ∧ ((tallied { mic .lost with bindings := [⟨.main, 1⟩, ⟨.main, 2⟩] } Src.awaiting).link
          159).bindings.length = 2
      ∧ ⟨.main, 48⟩ ∈ ((tallied { mic .lost with bindings := [⟨.main, 48⟩] } Src.awaiting).link
          159).bindings
      ∧ (∀ k, k < 159 → (⟨.main, 48⟩ : Binding) ∉
          ((tallied { mic .lost with bindings := [⟨.main, 48⟩] } Src.awaiting).link k).bindings)
      ∧ (((tallied { mic .lost with bindings := [⟨.main, 48⟩] } Src.awaiting).setLink 0
          (mic .active)).link 0).state.occupied = true :=
  ⟨fun _ => ⟨tallied_accepts _ _, quiet_of_nil rfl⟩, by decide, by decide, by decide +kernel,
    by decide +kernel, by decide +kernel, by decide +kernel, by decide +kernel, by decide +kernel,
    by decide +kernel⟩

/-- A retune whose TUNE has not been sent. -/
def unsent : Link := { mic .settling with target := some 5000, order := some (.tune 5000) }

/-- A hold withdraws the TUNE of an unsent retune (R74). -/
theorem test_hold_withdraws_tune :
    ((Link.onAirChange unsent true).state, (Link.onAirChange unsent true).order) = (.retuneWait, none) := by
  decide

theorem witness_HoldLiveAndSuppress :
    (withMic { mic .retuneWait with holdLive := true }).accepts
      ∧ ((withMic { mic .retuneWait with holdLive := true }).link 159).state.occupied = true
      ∧ (withMic { mic .retuneWait with holdLive := true }).quiet
      ∧ ((withMic { mic .retuneWait with holdLive := true }).link 159).holdLive ≠ (0 != 0)
      ∧ ((withMic { mic .retuneWait with holdLive := true }).link 159).holdLive = (255 != 0)
      ∧ (withMic { mic .retuneWait with holdLive := true }).onAir 159 = true
      ∧ ((withMic (active .camera)).link 159).kind = some .camera
      ∧ ((withMic (active .mic)).link 159).kind ≠ some .camera
      ∧ (withMic unsent).accepts ∧ (withMic unsent).quiet ∧ (withMic unsent).link 159 = unsent
      ∧ (withMic unsent).onAir 159 = false ∧ unsent.holdLive ≠ (1 != 0) :=
  ⟨withMic_accepts _, by decide +kernel, withMic_quiet _, by decide +kernel, by decide +kernel,
    by decide +kernel, by decide +kernel, by decide +kernel, withMic_accepts _, withMic_quiet _,
    by decide +kernel, by decide +kernel, by decide⟩

theorem witness_FramesAndLiveness :
    (tallied (mic .active) ⟨.live, [48], [], some 100⟩).live
      ∧ (tallied (mic .active) ⟨.live, [48], [], some 100⟩).tally.map = some mapA
      ∧ (tallied (mic .active) ⟨.live, [48], [], some 100⟩).tally.present .main = true
      ∧ (tallied (mic .active) ⟨.live, [48], [], some 100⟩).quiet
      ∧ ((tallied (mic .active) ⟨.live, [48], [], some 100⟩).tally.src .main).deadline = some 100
      ∧ ((tallied { mic .active with bindings := [⟨.main, 48⟩] } Src.awaiting).link 159).boundThrough
          (tallied (mic .active) Src.awaiting).tally .main = true :=
  ⟨live_of rfl rfl, rfl, by decide, quiet_of_nil rfl, rfl, by decide +kernel⟩

/-- A retune waits while input 48 of M, to which its link is bound, is on program. -/
def waitingOnAir : State :=
  tallied { mic .retuneWait with target := some 5000, bindings := [⟨.main, 48⟩], tally := .pgm }
    ⟨.live, [48], [], some 100⟩

/-- An unsent retune of a link bound to an input that is on no list. -/
def unsentOffAir : State := tallied { unsent with bindings := [⟨.main, 48⟩] } ⟨.live, [], [], some 100⟩

/-- A frame without the input releases the waiting retune: SETTLING with its TUNE owed (R74). -/
theorem test_frame_releases_retune :
    ((after (.tallyFrame .main (.fields ⟨[], []⟩)) waitingOnAir).link 159).state = .settling
      ∧ ((after (.tallyFrame .main (.fields ⟨[], []⟩)) waitingOnAir).link 159).order
          = some (.tune 5000) := by decide +kernel

/-- A frame with the input takes an unsent TUNE back: RETUNE_WAIT with no order (R74). -/
theorem test_frame_withdraws_tune :
    ((after (.tallyFrame .main (.fields ⟨[48], []⟩)) unsentOffAir).link 159).state = .retuneWait
      ∧ ((after (.tallyFrame .main (.fields ⟨[48], []⟩)) unsentOffAir).link 159).order = none := by
  decide +kernel

/-- A link goes off air, and on, by a frame, by CLEAR SOURCE and by UNBIND. -/
theorem witness_OnAirTaken :
    waitingOnAir.accepts ∧ waitingOnAir.quiet ∧ waitingOnAir.radioHeld
      ∧ (waitingOnAir.link 159).state = .retuneWait ∧ waitingOnAir.onAir 159 = true
      ∧ (∀ c, c ∈ [Instr.tallyFrame .main (.fields ⟨[], []⟩), .clearSource (.args 0),
          .unbind (.args ⟨0, 48⟩)] → (after c waitingOnAir).onAir 159 = false)
      ∧ unsentOffAir.accepts ∧ unsentOffAir.quiet ∧ (unsentOffAir.link 159).state = .settling
      ∧ (unsentOffAir.link 159).forced = false ∧ (unsentOffAir.link 159).order = some (.tune 5000)
      ∧ unsentOffAir.onAir 159 = false
      ∧ (after (.tallyFrame .main (.fields ⟨[48], []⟩)) unsentOffAir).onAir 159 = true
      ∧ (waitingOnAir.link 0).boundThrough waitingOnAir.tally .main = false :=
  ⟨tallied_accepts _ _, quiet_of_nil rfl, held_of rfl, by decide +kernel, by decide +kernel,
    by decide +kernel, tallied_accepts _ _, quiet_of_nil rfl, by decide +kernel, by decide +kernel,
    by decide +kernel, by decide +kernel, by decide +kernel, by decide +kernel⟩

/-! ### Witnesses: chapter 7 -/

theorem talkState_accepts (d : Dest) (x y : Option Key) : (talkState d x y).accepts :=
  accepts_of rfl rfl rfl
theorem talkState_live (d : Dest) (x y : Option Key) : (talkState d x y).live := live_of rfl rfl
theorem talkState_quiet (d : Dest) (x y : Option Key) : (talkState d x y).quiet := quiet_of_nil rfl

/-- No other key holds the origin of key 95. -/
theorem other_origins (j : Nat) (y : Key) (h : j ≠ 95)
    (e : (talkState panelDest (some (panelKey 0 7 .idle)) (some (panelKey 7 7 .idle))).talk.key j = some y) :
    y.origin ≠ .panel 63 7 := by
  have small : ∀ i, i < 96 → i ≠ 95 → ∀ x, x ∈ (talkState panelDest (some (panelKey 0 7 .idle))
      (some (panelKey 7 7 .idle))).talk.key i → x.origin ≠ .panel 63 7 := by decide +kernel
  exact small j (Tab.lt_of_get_some e) h y e

theorem witness_DefineKeyWrites :
    (talkState panelDest (some (panelKey 0 7 .idle)) (some (panelKey 7 7 .idle))).accepts
      ∧ originOf 0 63 7 = some (.panel 63 7) ∧ keyTypeOf 1 = some .latch
      ∧ (talkState panelDest (some (panelKey 0 7 .idle)) (some (panelKey 7 7 .idle))).talk.dest 31
          = some panelDest
      ∧ (talkState panelDest (some (panelKey 0 7 .idle)) (some (panelKey 7 7 .idle))).talk.key 95
          = some (panelKey 7 7 .idle)
      ∧ (∀ j y, j ≠ 95 → (talkState panelDest (some (panelKey 0 7 .idle))
          (some (panelKey 7 7 .idle))).talk.key j = some y → y.origin ≠ .panel 63 7)
      ∧ (talkState panelDest none none).talk.key 95 = none
      ∧ originOf 1 159 3 = some (.pack 159 3)
      ∧ ((withMic (active .beltpack)).link 159).kind = some .beltpack :=
  ⟨talkState_accepts _ _ _, by decide, by decide, by decide, by decide, other_origins, by decide,
    by decide, by decide +kernel⟩

theorem witness_DeleteKeyActs :
    (∀ x y, (talkState panelDest x y).accepts)
      ∧ (talkState panelDest none none).talk.key 95 = none
      ∧ (∀ st, (talkState panelDest none (some (panelKey 0 0 st))).talk.key 95
          = some (panelKey 0 0 st)) :=
  ⟨fun _ _ => talkState_accepts _ _ _, by decide, fun st => by cases st <;> decide⟩

/-- A part with an IEM link at handle 159, destination 31 being `d`. -/
def earpiece (d : Dest) : State := (talkState d none none).setLink 159 (active .iem)

theorem witness_DestinationTableRequests :
    (earpiece panelDest).accepts ∧ destKindOf 0 = some .ifb ∧ modeOf 2 = some .conference
      ∧ ((earpiece panelDest).link 159).state.occupied = true
      ∧ ((earpiece panelDest).link 159).kind = some .iem
      ∧ (earpiece panelDest).talk.dest 31 = some panelDest ∧ panelDest.talking = []
      ∧ panelDest.waiting = [] ∧ (earpiece panelDest).plans.active.names 31 = false
      ∧ (earpiece panelDest).plans.pending.names 31 = false
      ∧ (∀ k x, (earpiece panelDest).talk.key k = some x → x.dest ≠ 31)
      ∧ (talkState panelDest none (some (panelKey 0 0 .disabled))).talk.key 95
          = some (panelKey 0 0 .disabled) := by
  refine ⟨accepts_of rfl rfl rfl, by decide, by decide, by decide +kernel, by decide +kernel, by decide,
    rfl, rfl, by decide, by decide, ?_, by decide⟩
  intro k x e
  have small : ∀ i, i < 96 → (earpiece panelDest).talk.key i = none := by decide +kernel
  rw [small k (Tab.lt_of_get_some e)] at e
  cases e

theorem witness_SetTargetAndWatch :
    (earpiece { panelDest with kind := .ifb }).accepts ∧ (earpiece { panelDest with kind := .ifb }).quiet
      ∧ (earpiece { panelDest with kind := .ifb }).talk.dest 31 = some { panelDest with kind := .ifb }
      ∧ ((earpiece { panelDest with kind := .ifb }).link 159).state.occupied = true
      ∧ ((earpiece { panelDest with kind := .ifb }).link 159).kind = some .iem :=
  ⟨accepts_of rfl rfl rfl, quiet_of_nil rfl, by decide, by decide +kernel, by decide +kernel⟩

theorem witness_SetLastAndClearTalk :
    (talkState panelDest none (some (panelKey 0 7 .idle))).accepts
      ∧ (talkState panelDest none (some (panelKey 0 7 .idle))).talk.key 95 = some (panelKey 0 7 .idle)
      ∧ (talkState panelDest none (some (panelKey 0 7 .idle))).talk.dest 31 = some panelDest
      ∧ (talkState { panelDest with talking := [95], requests := [95] } none
          (some (panelKey 0 7 .talking))).accepts
      ∧ (talkState { panelDest with talking := [95], requests := [95] } none
          (some (panelKey 0 7 .talking))).quiet :=
  ⟨talkState_accepts _ _ _, by decide, by decide, talkState_accepts _ _ _, talkState_quiet _ _ _⟩

/-- Key 0 is driven by button 7 of panel 63. -/
theorem drives_zero (d : Dest) (lvl : Nat) (st : KeyState) (y : Option Key)
    (e : (talkState d (some (panelKey 7 lvl st)) y).talk.key 0 = some (panelKey 7 lvl st)) :
    (talkState d (some (panelKey 7 lvl st)) y).talk.drives (.panel 63 7) 0 (panelKey 7 lvl st) :=
  ⟨e, rfl, fun _ _ h => absurd h (Nat.not_lt_zero _)⟩

/-- The destination with key 95 talking. -/
def taken : Dest := { panelDest with talking := [95], requests := [95] }

theorem witness_KeyEventsArbitrate_granted :
    (talkState panelDest (some (panelKey 7 7 .idle)) none).live
      ∧ (talkState panelDest (some (panelKey 7 7 .idle)) none).quiet
      ∧ (talkState panelDest (some (panelKey 7 7 .idle)) none).talk.sound
      ∧ (talkState panelDest (some (panelKey 7 7 .idle)) none).hears (.panel 63 7)
      ∧ (talkState panelDest (some (panelKey 7 7 .idle)) none).talk.drives (.panel 63 7) 0
          (panelKey 7 7 .idle)
      ∧ (talkState panelDest (some (panelKey 7 7 .idle)) none).talk.dest 31 = some panelDest
      ∧ (talkState panelDest (some (panelKey 7 7 .idle)) none).talk.eligible panelDest 0 = true
      ∧ panelDest.talking.length < panelDest.limit :=
  ⟨talkState_live _ _ _, talkState_quiet _ _ _, sound_of (by decide +kernel), rfl,
    drives_zero _ _ _ _ (by decide), by decide, by decide, by decide⟩

/-- A key of the talker's level waits; one of a lower level number pre-empts it. -/
theorem witness_KeyEventsArbitrate_placed (lvl : Nat) (h : lvl = 0 ∨ lvl = 7) :
    (talkState taken (some (panelKey 7 lvl .idle)) (some (panelKey 0 7 .talking))).talk.sound
      ∧ (talkState taken (some (panelKey 7 lvl .idle)) (some (panelKey 0 7 .talking))).talk.drives
          (.panel 63 7) 0 (panelKey 7 lvl .idle)
      ∧ (talkState taken (some (panelKey 7 lvl .idle)) (some (panelKey 0 7 .talking))).talk.eligible
          taken 0 = true
      ∧ taken.limit ≤ taken.talking.length
      ∧ (talkState taken (some (panelKey 7 lvl .idle)) (some (panelKey 0 7 .talking))).talk.victim taken 0
          = if lvl = 0 then some 95 else none := by
  obtain rfl | rfl := h <;>
    exact ⟨sound_of (by decide +kernel), drives_zero _ _ _ _ (by decide), by decide, by decide, by decide⟩

theorem witness_KeyEventsArbitrate_ended :
    (talkState { panelDest with talking := [0], requests := [0] } (some (panelKey 7 7 .talking))
        none).talk.sound
      ∧ (talkState { panelDest with waiting := [0], requests := [0], routed := false }
        (some (panelKey 7 7 .waiting)) none).talk.sound
      ∧ (talkState { panelDest with routed := false } (some (panelKey 7 7 .idle)) none).talk.eligible
          { panelDest with routed := false } 0 = false
      ∧ (panelKey 7 7 .talking).type = .latch
      ∧ (talkState panelDest (some (panelKey 7 7 .disabled)) none).talk.sound :=
  ⟨sound_of (by decide +kernel), sound_of (by decide +kernel), by decide, rfl,
    sound_of (by decide +kernel)⟩

/-- Key 95 talks, and key 0 stands before it in the ring of level 7. -/
def ordered : State :=
  talkState { taken with rings := (Tab.fill 8 []).set 7 [0, 95] } (some (panelKey 7 7 .idle))
    (some (panelKey 0 7 .talking))

theorem witness_TalkInOrder : ordered.talk.sound ∧ ordered.talk.inOrder ∧ ∃ t, step ordered = .next t :=
  ⟨sound_of (by decide +kernel), inOrder_of (by decide +kernel), _, rfl⟩

/-- Of two keys of one level that wait, the one whose ring place comes first stands first with rotation on, and
the one that asked first with rotation off (R141). -/
theorem test_waiting_order (rotation : Bool) :
    ((after (.press (.fields ⟨63, 7⟩)) (talkState { panelDest with
        routed := false, rotation := rotation, waiting := [95], requests := [95]
        rings := (Tab.fill 8 []).set 7 [0, 95] } (some (panelKey 7 7 .idle))
          (some (panelKey 0 7 .waiting)))).talk.dest 31).map (·.waiting)
      = some (if rotation then [0, 95] else [95, 0]) := by
  cases rotation <;> decide +kernel

/-- Key 0 talks, at its deadline's end, and key 95 waits behind it. -/
def queued : State :=
  talkState { panelDest with talking := [0], waiting := [95], requests := [0, 95] }
    (some { panelKey 7 7 .talking with deadline := some 10000 }) (some (panelKey 0 7 .waiting))

/-- The place that key 0 leaves goes to key 95 (R143). -/
theorem witness_TalkDeadlineEnds_refills :
    queued.pins.inReset = false ∧ queued.quiet ∧ queued.talk.sound
      ∧ queued.talk.key 0 = some { panelKey 7 7 .talking with deadline := some 10000 }
      ∧ queued.talk.dest 31
          = some { panelDest with talking := [0], waiting := [95], requests := [0, 95] }
      ∧ queued.talk.granted { panelDest with talking := [0], waiting := [95], requests := [0, 95] } 0
          = [95] :=
  ⟨rfl, talkState_quiet _ _ _, sound_of (by decide +kernel), by decide, by decide, by decide⟩

theorem witness_TalkDeadlineEnds :
    (talkState { panelDest with talking := [0], requests := [0] }
        (some { panelKey 7 7 .talking with deadline := some 10000 }) none).pins.inReset = false
      ∧ (talkState { panelDest with talking := [0], requests := [0] }
        (some { panelKey 7 7 .talking with deadline := some 10000 }) none).quiet
      ∧ (talkState { panelDest with talking := [0], requests := [0] }
        (some { panelKey 7 7 .talking with deadline := some 10000 }) none).talk.sound
      ∧ (talkState { panelDest with talking := [0], requests := [0] }
        (some { panelKey 7 7 .talking with deadline := some 10000 }) none).talk.key 0
          = some { panelKey 7 7 .talking with deadline := some 10000 }
      ∧ (talkState { panelDest with talking := [0], requests := [0] }
        (some { panelKey 7 7 .talking with deadline := some 10000 }) none).talk.dest 31
          = some { panelDest with talking := [0], requests := [0] } :=
  ⟨rfl, talkState_quiet _ _ _, sound_of (by decide +kernel), by decide, by decide⟩

/-! ### Witnesses: chapters 8 and 9 -/

/-- A part with a belt-pack at handle 159, the GROUP destination 31, and a Pending Plan naming both. -/
def planned (st : PlanState) : State :=
  (((talkState { panelDest with kind := .group, routed := false } none none).setLink 159
    (active .beltpack)).setPlans
      { pending := ⟨(Tab.fill 12 none).set 11 (some 31), [⟨159, 4095, some 9⟩]⟩, active := Plan.empty
        state := st, number := 65535 })

theorem witness_StagingEditsPendingPlan :
    (∀ st, (planned st).accepts ∧ (planned st).plans.state = st)
      ∧ ((planned .idle).link 159).state ≠ .free ∧ ((planned .idle).link 159).kind = some .beltpack :=
  ⟨fun _ => ⟨accepts_of rfl rfl rfl, rfl⟩, by decide +kernel, by decide +kernel⟩

theorem witness_CommitAndDiscardPlan :
    (∀ st, (planned st).accepts ∧ (planned st).plans.state = st)
      ∧ (planned .idle).offence (planned .idle).plans.pending = none
      ∧ on.offence (planned .idle).plans.pending = some (.destKind 11 31)
      ∧ (on.setPlans (planned .idle).plans).accepts
      ∧ (on.setPlans (planned .idle).plans).plans.pending.ordered
      ∧ (on.setPlans (planned .idle).plans).offence (on.setPlans (planned .idle).plans).plans.pending
          = some (.destKind 11 31) :=
  ⟨fun _ => ⟨accepts_of rfl rfl rfl, rfl⟩, by decide +kernel, by decide +kernel, accepts_of rfl rfl rfl,
    by unfold Plan.ordered; decide, by decide +kernel⟩

theorem witness_FrameMarkApplies :
    (planned .idle).live ∧ (planned .idle).plans.state = .idle ∧ (planned .commitWait).live
      ∧ (planned .commitWait).plans.state = .commitWait ∧ (planned .commitWait).quiet
      ∧ (planned .commitWait).talk.sound :=
  ⟨live_of rfl rfl, rfl, live_of rfl rfl, rfl, quiet_of_nil rfl, sound_of (by decide +kernel)⟩

/-- A key of button `b` of the pack at handle 159. -/
def packKey (b : Nat) (st : KeyState) : Key := ⟨.pack 159 b, 31, 7, .latch, st, none⟩

/-- A belt-pack at handle 159 in both plans, with one key TALKING and one WAITING. -/
def framed (l : Link) : State :=
  ((talkState { panelDest with talking := [0], waiting := [95], requests := [0, 95] }
      (some (packKey 0 .talking)) (some (packKey 3 .waiting))).setLink 159
    { l with kind := some .beltpack }).setPlans
      { (planned .idle).plans with active := (planned .idle).plans.pending }

/-- A pack that is retired, and one that is lost at the end of its SETTLE timer. -/
theorem witness_LeavesPlans :
    (∀ l, (framed l).accepts ∧ (framed l).engineSettled ∧ (framed l).radioHeld ∧ (framed l).quiet
        ∧ (framed l).talk = (framed (mic .active)).talk
        ∧ ⟨159, 4095, some 9⟩ ∈ (framed l).plans.active.packs)
      ∧ (framed (mic .active)).talk.sound
      ∧ (framed (mic .active)).talk.key 0 = some (packKey 0 .talking)
      ∧ (framed (mic .active)).talk.key 95 = some (packKey 3 .waiting)
      ∧ ((framed (mic .active)).link 159).state = .active ∧ (framed (mic .active)).onAir 159 = false
      ∧ LinkState.active.planEligible = true
      ∧ ((framed { mic .reverting with timer := some ⟨.settle, 0⟩ }).link 159).state = .reverting
      ∧ ((framed { mic .reverting with timer := some ⟨.settle, 0⟩ }).link 159).timer
          = some ⟨.settle, 0⟩ :=
  ⟨fun _ => ⟨accepts_of rfl rfl rfl, settled_of rfl rfl, held_of rfl, quiet_of_nil rfl,
      rfl, List.mem_singleton.2 rfl⟩,
    sound_of (by decide +kernel), by decide, by decide, by decide +kernel, by decide +kernel, rfl,
    by decide +kernel, by decide +kernel⟩

/-- Both keys go IDLE, the entry leaves the Active Plan, and a PLAN is owed (R148, R165). -/
theorem test_lost_leaves_plans :
    let t := after (.settleTimerExpiry 159) (framed { mic .reverting with timer := some ⟨.settle, 0⟩ })
    ((t.talk.key 0).map (·.state), (t.talk.key 95).map (·.state), t.plans.active.packs, t.radio.planOwed)
      = (some .idle, some .idle, [], true) := by decide +kernel

/-- CTS is asserted and the record the scan reaches last has an order. -/
def clear (o : Option Order) : State :=
  (withMic { mic .active with order := o, lampOwed := true }).setRadio { on.radio with cts := true }

theorem witness_TransmittersBegin :
    (∀ o, (clear o).pins.inReset = false ∧ (clear o).quiet ∧ (clear o).radio.cts = true
      ∧ (clear o).radio.planOwed = false ∧ (clear o).radio.scan = 159)
      ∧ ((clear (some .mute)).link 159).sendable = true ∧ ((clear none).link 159).sendable = true
      ∧ (∀ g, g < 160 → (g + 159 - 159) % 160 < (159 + 159 - 159) % 160 →
          ((clear none).link g).sendable = false)
      ∧ (∀ g, g < 160 → (on.link g).sendable = false) ∧ on.radio.sending = none
      ∧ (on.setRadio { on.radio with planOwed := true }).radio.planOwed = true
      ∧ on.pins.inReset = false ∧ on.quiet ∧ on.radioHeld ∧ on.mtx.scan = 31
      ∧ (on.setMtx { on.mtx with owed := on.mtx.owed.set 31 true }).mtx.owed.get 31 false = true
      ∧ (∀ i, i < 32 → (i + 31 - 31) % 32 < (31 + 31 - 31) % 32 →
          (on.setMtx { on.mtx with owed := on.mtx.owed.set 31 true }).mtx.owed.get i false = false)
      ∧ (∀ i, i < 32 → on.mtx.owed.get i false = false) :=
  ⟨fun _ => ⟨rfl, quiet_of_nil rfl, rfl, rfl, rfl⟩, by decide +kernel, by decide +kernel,
    by decide +kernel, by decide +kernel, rfl, rfl, rfl, quiet_of_nil rfl, held_of rfl, rfl,
    by decide, by decide, by decide⟩

theorem witness_ReceiversAndCarrierReports :
    on.pins.inReset = false ∧ (on.link 0).state = .free ∧ on.tally.present .main = false
      ∧ (withMic (mic .lost)).live ∧ ((withMic (mic .lost)).link 159).state ≠ .free
      ∧ ((withMic (mic .lost)).link 159).kind ≠ some .beltpack
      ∧ (∀ e, e ∈ (planned .idle).plans.active.packs → e.handle = 159 → e.up = none)
      ∧ (∀ k, k < 96 → on.talk.key k = none)
      ∧ (tallied (mic .active) Src.awaiting).tally.present .main = true
      ∧ 48 < (List.replicate 49 1).length :=
  ⟨rfl, by decide, by decide, withMic_live _, by decide +kernel, by decide +kernel, by decide,
    by decide, by decide, by decide⟩

/-- A frame that counts 49 inputs is discarded (R193). -/
theorem test_frame_count_above_48 :
    (after (.tallyFrame .main (.fields ⟨List.replicate 49 1, []⟩))
      (tallied (mic .active) Src.awaiting)).tally.src0 = Src.awaiting := by decide +kernel

/-! ### Witnesses: what every step keeps -/

/-- Every step of the part answers a next state. -/
theorem steps (s : State) (c : Instr) (rest : List Instr) (t : State)
    (h : exec c (s.setPending rest) = .next t) : step (s.setPending (c :: rest)) = .next t := h

theorem witness_StepKeepsSettled :
    on.settled ∧ ∃ t, step on = .next t := by
  refine ⟨⟨on_settled, ?_, ?_⟩, _, rfl⟩
  · intro _ _
    exact ⟨rfl, by decide +kernel⟩
  · intro _
    decide

theorem witness_StepKeepsQueuesAndPort :
    on.bounded ∧ on.portSound ∧ ∃ t, step on = .next t := by
  refine ⟨by unfold State.bounded; decide, ⟨by decide, ?_, ?_⟩, _, rfl⟩
  · intro r h; cases h
  · intro n h; cases h

theorem witness_StepKeepsSparesDistinct :
    ((on.pool.setSlot 0 (some (spareAt 5000 .clear .none))).setSlot 31
      (some (spareAt 5001 .clear .none))).distinct := by
  intro i j a b ha hb ne
  have small : ∀ i, i < 32 → ∀ j, j < 32 →
      ∀ a, a ∈ ((on.pool.setSlot 0 (some (spareAt 5000 .clear .none))).setSlot 31
        (some (spareAt 5001 .clear .none))).slots.get i none →
      ∀ b, b ∈ ((on.pool.setSlot 0 (some (spareAt 5000 .clear .none))).setSlot 31
        (some (spareAt 5001 .clear .none))).slots.get j none → i ≠ j → a.step ≠ b.step := by
    decide +kernel
  exact small i (Tab.lt_of_get_some ha) j (Tab.lt_of_get_some hb) a ha b hb ne

theorem witness_StepKeepsTalkLists :
    (talkState taken none (some (panelKey 0 7 .talking))).talk.sound
      ∧ ∃ t, step (talkState taken none (some (panelKey 0 7 .talking))) = .next t :=
  ⟨sound_of (by decide +kernel), _, rfl⟩

/-- Every record of a part with no links is FREE. -/
theorem link_fill (s : State) (h : s.links = Tab.fill 160 Link.free) (g : Nat) : s.link g = Link.free := by
  simp only [State.link, h, Tab.get, Tab.fill, List.getD_eq_getElem?_getD, List.getElem?_replicate]
  split <;> rfl

theorem witness_StepKeepsStanding :
    (talkState taken none (some (panelKey 0 7 .talking))).stands := by
  refine ⟨sound_of (by decide +kernel), fun h _ => link_fill _ rfl h, ?_⟩
  intro id d e
  have small : ∀ i, i < 32 → ∀ x, x ∈ (talkState taken none (some (panelKey 0 7 .talking))).talk.dest i →
      i = 31 ∧ x = taken := by decide +kernel
  obtain ⟨rfl, rfl⟩ := small id (Tab.lt_of_get_some e) d e
  unfold State.destStands
  decide +kernel

theorem witness_StepKeepsPlansSound :
    (planned .commitWait).plansSound ∧ ∃ t, step (planned .commitWait) = .next t := by
  refine ⟨?_, _, rfl⟩
  unfold State.plansSound Plan.ordered
  decide +kernel

/-- Two ACTIVE links that share a zone. -/
def pair : State := (withMic (mic .active)).setLink 0 { mic .active with carrier := some 9000, label := [66] }

theorem pair_occupied : pair.occupied
    = [⟨.held 0 0, some 0, 9000, 20, true, 1⟩, ⟨.held 159 0, some 159, 4000, 20, true, 1⟩] := by
  decide +kernel

theorem witness_StepKeepsOccupiedSetProtected :
    pair.coordinated ∧ ∃ t, step pair = .next t := by
  refine ⟨⟨⟨?_, ?_, ?_⟩, ?_, ?_, ?_, ?_, ?_⟩, _, rfl⟩
  · rw [pair_occupied]
    have h : ∀ a, a ∈ pair.occupied → ∀ b, b ∈ pair.occupied → pair.engine.prof.apart a b := by
      rw [pair_occupied]
      unfold Profile.apart
      decide +kernel
    rw [pair_occupied] at h
    exact fun a b ha hb => h a ha b hb
  · have three : ∀ a, a ∈ pair.occupied → ∀ b, b ∈ pair.occupied → ∀ v, v ∈ pair.occupied →
        linksDiffer [a, b, v] = false := by
      rw [pair_occupied]
      decide
    have four : ∀ a, a ∈ pair.occupied → ∀ b, b ∈ pair.occupied → ∀ d, d ∈ pair.occupied →
        ∀ v, v ∈ pair.occupied → linksDiffer [a, b, d, v] = false := by
      rw [pair_occupied]
      decide
    exact fun a b d v ha hb hd hv =>
      ⟨fun c => absurd c (by simp [three a ha b hb v hv]),
        fun c => absurd c (by simp [four a ha b hb d hd v hv]),
        fun _ c => absurd c (by simp [three a ha b hb v hv])⟩
  · rw [pair_occupied]
    unfold Engine.inBounds
    decide +kernel
  · intro h; cases h
  · intro j h; cases h
  · decide
  · intro h _
    have small : ∀ i, i < 160 → (pair.link i).target = none := by decide +kernel
    rcases Nat.lt_or_ge h 160 with c | c
    · exact small h c
    · have : pair.links.rows.length ≤ h := by rw [pair.links.size]; exact c
      simp [State.link, Tab.get, List.getD_eq_getElem?_getD, List.getElem?_eq_none this, Link.free]
  · intro occ trial failures h; cases h

end Sys2Proof.Tests
end

section
/-! The fixed-size tables read entry by entry, and what the scans over the tables of the state find:
records, spares, carriers. -/

namespace Sys2Proof

variable {n : Nat} {α : Type}

theorem Tab.rows_eq (t : Tab n α) (d : α) : t.rows = (List.range n).map fun i => t.get i d := by
  apply List.ext_getElem
  · simp [t.size]
  · intro i hi _
    simp [Tab.get, List.getD_eq_getElem?_getD, List.getElem?_eq_getElem hi]

theorem Tab.entries_eq (t : Tab n α) (d : α) :
    t.entries = (List.range n).map fun i => (t.get i d, i) := by
  apply List.ext_getElem
  · simp [Tab.entries, t.size]
  · intro i hi _
    have hi' : i < t.rows.length := by simpa [Tab.entries] using hi
    simp [Tab.entries, Tab.get, List.getD_eq_getElem?_getD, List.getElem?_eq_getElem hi']

theorem Tab.countP_rows (t : Tab n α) (d : α) (p : α → Bool) :
    t.rows.countP p = (List.range n).countP fun i => p (t.get i d) := by
  rw [t.rows_eq d, List.countP_map]; rfl

end Sys2Proof

namespace Sys2Proof.Machine

open Sys2Proof

theorem State.findLink_eq (s : State) (p : Link → Bool) :
    s.findLink p = (List.range 160).find? fun h => p (s.link h) := by
  rw [State.findLink, s.links.entries_eq Link.free, List.find?_map, Option.map_map]
  exact Option.map_id'

theorem State.findLink_eq_none_iff (s : State) (p : Link → Bool) :
    s.findLink p = none ↔ ∀ h, h < 160 → p (s.link h) = false := by
  simp [State.findLink_eq, List.find?_eq_none]

theorem State.occupied_eq (s : State) :
    s.occupied = (List.range 160).flatMap fun h => (s.link h).members s.engine.prof h := by
  rw [State.occupied, s.links.entries_eq Link.free, List.flatMap_map]; rfl

/-- The carriers held do not depend on what a transmitter's start may write (R172). -/
theorem Link.members_lasting (p : Profile) (h : Nat) (l : Link) :
    l.lasting.members p h = l.members p h := rfl

theorem State.occupied_congr {s t : State} (hl : ∀ h, (t.link h).lasting = (s.link h).lasting)
    (hp : t.engine.profile = s.engine.profile) : t.occupied = s.occupied := by
  have members : ∀ h, (t.link h).members t.engine.prof h = (s.link h).members s.engine.prof h := by
    intro h
    rw [← Link.members_lasting, hl, Link.members_lasting, Engine.prof, hp, Engine.prof]
  simp only [State.occupied_eq, members]

theorem Pool.spares_eq (p : Pool) :
    p.spares = (List.range 32).filterMap fun i => (p.slots.get i none).map fun sp => (sp, i) := by
  rw [Pool.spares, p.slots.entries_eq none, List.filterMap_map]; rfl

theorem Pool.mem_spares (p : Pool) (sp : Spare) (i : Nat) :
    (sp, i) ∈ p.spares ↔ p.slots.get i none = some sp := by
  simp only [Pool.spares_eq, List.mem_filterMap, List.mem_range, Option.map_eq_some_iff, Prod.mk.injEq]
  constructor
  · rintro ⟨_, _, _, e, rfl, rfl⟩
    exact e
  · intro e
    exact ⟨i, Tab.lt_of_get_some e, sp, e, rfl, rfl⟩

theorem Pool.spares_length (p : Pool) : p.spares.length = p.slots.rows.countP (·.isSome) := by
  simp [Pool.spares_eq, List.length_filterMap_eq_countP, p.slots.countP_rows none]

theorem Pool.count_eq (p : Pool) (st : SpareStatus) :
    p.count st = p.slots.rows.countP fun x => x.any fun sp => sp.status == st := by
  rw [Pool.count, Pool.spares_eq, List.filter_filterMap, List.length_filterMap_eq_countP,
    p.slots.countP_rows none]
  congr 1
  funext i
  cases p.slots.get i none <;> simp [Option.filter_some]
  split <;> simp_all

/-- Only the slots count for the spares of a status. -/
theorem Pool.count_congr {p q : Pool} (h : q.slots = p.slots) (st : SpareStatus) :
    q.count st = p.count st := by
  rw [Pool.count_eq, Pool.count_eq, h]

/-- Every slot is free or holds a spare of one of the three statuses. -/
theorem Pool.counts_add_up (p : Pool) :
    p.count .clear + p.count .unchecked + p.count .spoiled = p.spares.length := by
  simp only [Pool.count_eq, Pool.spares_length]
  generalize p.slots.rows = l
  induction l with
  | nil => rfl
  | cons x xs ih =>
    simp only [List.countP_cons]
    cases x with
    | none => simpa using ih
    | some sp => cases h : sp.status <;> simp [h] <;> omega

theorem Pool.free_add_spares (p : Pool) :
    p.slots.rows.countP (·.isNone) + p.spares.length = 32 := by
  rw [Pool.spares_length]
  have all := List.length_eq_countP_add_countP (fun x : Option Spare => x.isNone) (l := p.slots.rows)
  simpa [p.slots.size, Option.ne_none_iff_isSome] using all.symm

end Sys2Proof.Machine
end

section
/-! How requests are taken by a part that is not CONFIGURED, and by a lookup (R8, R9, R181). -/

namespace Sys2Proof.Machine

open Sys2Proof

/-- A request goes through `State.take` under its own code, but for one whose code is unknown. Only LOAD
PROFILE and READ SUMMARY reach their owner in both configured states (R8). -/
theorem request_taken {c : Instr} {n : Nat} {ok : Bool} (h : c.request = some (n, ok)) :
    c = .unrecognisedRequest n ∨
      ∃ (α : Type) (b : ReqBody α) (own : α → State → Answer), b.lengthOk = ok
        ∧ ∀ s, exec c s = .next (s.take n (n == 1 || n == 48) b own) := by
  cases c
  all_goals cases h
  case unrecognisedRequest => exact .inl rfl
  all_goals exact .inr ⟨_, _, _, rfl, fun _ => rfl⟩

theorem take_unconfigured {α : Type} {s : State} (h : s.free) (hc : s.configured = false) (code : Nat)
    (b : ReqBody α) (own : α → State → Answer) :
    s.take code false b own = s.respond code .notConfigured .empty := by
  simp [State.take, transaction_listening h.1, h.2, hc]

/-- A report finds the part UNCONFIGURED: the receiver alone is emptied (R9). -/
theorem report_unconfigured {α : Type} {s : State} (hr : s.pins.inReset = false)
    (hc : s.configured = false) (b : LineBody α) (handle : α → Nat) (inRange : α → Bool)
    (k : α → State → State) : s.report b handle inRange k = s.rrxDone := by
  simp [State.report, event_live hr, hc]

theorem panelEvent_unconfigured {s : State} (hr : s.pins.inReset = false) (hc : s.configured = false)
    (b : LineBody PanelArgs) (press : Bool) : s.panelEvent b press = s.mrxDone := by
  simp [State.panelEvent, event_live hr, hc]

@[simp] theorem lineDone_configured (s : State) (x : Source) :
    (s.lineDone x).configured = s.configured := by
  cases x <;> rfl

theorem tallyFrame_unconfigured {s : State} (hc : s.configured = false) (x : Source)
    (b : LineBody FrameArgs) : s.tallyFrame x b = s := by
  cases b <;> simp [State.tallyFrame, hc]

/-- Every report, and a message of a type RRX does not receive, empties the receiver of an UNCONFIGURED
part. -/
theorem exec_radio_unconfigured {s : State} (hr : s.pins.inReset = false) (hc : s.configured = false)
    (a : LineBody HandleStep) (h : LineBody Nat) (v : LineBody InterferenceArgs)
    (k : LineBody PackKeyArgs) (n : Nat) (c : Instr)
    (m : c ∈ [Instr.tuned a, .muted h, .interference v, .carrierLoss h, .carrierBack h, .key k,
      .radioUnknownReportType n]) : exec c s = .next s.rrxDone := by
  simp only [List.mem_cons, List.not_mem_nil, or_false] at m
  rcases m with rfl | rfl | rfl | rfl | rfl | rfl | rfl
  iterate 6 exact congrArg Host.Outcome.next (report_unconfigured hr hc _ _ _ _)
  exact congrArg Host.Outcome.next (event_live hr _)

theorem exec_matrix_unconfigured {s : State} (hr : s.pins.inReset = false) (hc : s.configured = false)
    (b : LineBody PanelArgs) (n : Nat) (c : Instr)
    (m : c ∈ [Instr.press b, .release b, .matrixUnknownEventType n]) : exec c s = .next s.mrxDone := by
  simp only [List.mem_cons, List.not_mem_nil, or_false] at m
  rcases m with rfl | rfl | rfl
  · exact congrArg Host.Outcome.next (panelEvent_unconfigured hr hc b true)
  · exact congrArg Host.Outcome.next (panelEvent_unconfigured hr hc b false)
  · exact congrArg Host.Outcome.next (event_live hr _)

theorem exec_tally_unconfigured {s : State} (hr : s.pins.inReset = false) (hc : s.configured = false)
    (x : Source) (b : LineBody FrameArgs) (n : Nat) (c : Instr)
    (m : c ∈ [Instr.tallyFrame x b, .tallyUnknownMessageType x n]) :
    exec c s = .next (s.lineDone x) := by
  simp only [List.mem_cons, List.not_mem_nil, or_false] at m
  rcases m with rfl | rfl
  · refine congrArg Host.Outcome.next ((event_live hr _).trans ?_)
    exact tallyFrame_unconfigured ((lineDone_configured s x).trans hc) x b
  · exact congrArg Host.Outcome.next (event_live hr _)

/-- Settles O6: every request but two goes through `State.take`, and every message of another party
through an acceptance that an UNCONFIGURED part fails. -/
theorem unconfiguredTurnsAway : Obligations.UnconfiguredTurnsAway := by
  refine ⟨fun c n ok s hreq h1 h48 hun hf hc => ?_, fun s hr hc => ⟨?_, ?_, ?_, ?_⟩⟩
  · rcases request_taken hreq with rfl | ⟨α, b, own, -, htake⟩
    · exact absurd rfl (hun n)
    · have never : (n == 1 || n == 48) = false := by simp [h1, h48]
      rw [htake s, never, take_unconfigured hf hc]
  · exact exec_radio_unconfigured hr hc
  · exact exec_matrix_unconfigured hr hc
  · intro b n
    exact ⟨exec_tally_unconfigured hr hc .main b n, exec_tally_unconfigured hr hc .sub1 b n,
      exec_tally_unconfigured hr hc .sub2 b n⟩
  · exact congrArg Host.Outcome.next (by simp [State.outside, hc])

/-! ### Lookups -/

/-- The owner of a request changes nothing, whatever it answers. -/
def ReadsOnly {α : Type} (own : α → State → Answer) : Prop := ∀ a s, (own a s).state = s

theorem readsOnly_readProfile : ReadsOnly ownReadProfile := fun _ _ => rfl

theorem readsOnly_queryLink : ReadsOnly ownQueryLink := by
  intro h s
  unfold ownQueryLink
  split <;> rfl

theorem readsOnly_findLabel : ReadsOnly ownFindLabel := by
  intro l s
  unfold ownFindLabel
  split
  · rfl
  · split <;> rfl

theorem readsOnly_findFrequency : ReadsOnly ownFindFrequency := by
  intro f s
  unfold ownFindFrequency
  split <;> rfl

theorem readsOnly_findBinding : ReadsOnly ownFindBinding := by
  intro a s
  unfold ownFindBinding
  split
  · rfl
  · split <;> rfl

theorem readsOnly_listLinks : ReadsOnly ownListLinks := by
  intro a s
  simp only [ownListLinks]
  split <;> rfl

theorem readsOnly_readPool : ReadsOnly ownReadPool := by
  intro i s
  unfold ownReadPool
  split <;> rfl

theorem readsOnly_readTally : ReadsOnly ownReadTally := fun _ _ => rfl

theorem readsOnly_queryDest : ReadsOnly ownQueryDest := by
  intro id s
  unfold ownQueryDest
  split <;> rfl

theorem readsOnly_queryKey : ReadsOnly ownQueryKey := by
  intro k s
  unfold ownQueryKey
  split <;> rfl

theorem readsOnly_readPlan : ReadsOnly ownReadPlan := by
  intro a s
  unfold ownReadPlan
  split
  · rfl
  · split <;> rfl

/-- A lookup is taken by an owner that changes nothing. -/
theorem lookup_taken {c : Instr} {n : Nat} {ok : Bool} (hl : c.lookup = true)
    (h : c.request = some (n, ok)) :
    ∃ (α : Type) (b : ReqBody α) (own : α → State → Answer), ReadsOnly own
      ∧ ∀ s, exec c s = .next (s.take n false b own) := by
  cases c
  all_goals cases hl
  all_goals cases h
  case readProfile b => exact ⟨_, b, _, readsOnly_readProfile, fun _ => rfl⟩
  case queryLink b => exact ⟨_, b, _, readsOnly_queryLink, fun _ => rfl⟩
  case findLabel b => exact ⟨_, b, _, readsOnly_findLabel, fun _ => rfl⟩
  case findFrequency b => exact ⟨_, b, _, readsOnly_findFrequency, fun _ => rfl⟩
  case findBinding b => exact ⟨_, b, _, readsOnly_findBinding, fun _ => rfl⟩
  case listLinks b => exact ⟨_, b, _, readsOnly_listLinks, fun _ => rfl⟩
  case readPool b => exact ⟨_, b, _, readsOnly_readPool, fun _ => rfl⟩
  case readTally b => exact ⟨_, b, _, readsOnly_readTally, fun _ => rfl⟩
  case queryDest b => exact ⟨_, b, _, readsOnly_queryDest, fun _ => rfl⟩
  case queryKey b => exact ⟨_, b, _, readsOnly_queryKey, fun _ => rfl⟩
  case readPlan b => exact ⟨_, b, _, readsOnly_readPlan, fun _ => rfl⟩

/-- Whatever becomes of a request to such an owner, the state it leaves is the state it found, answered. -/
theorem take_readsOnly {α : Type} {s : State} {own : α → State → Answer} (r : ReadsOnly own) (hf : s.free)
    (code : Nat) (always : Bool) (b : ReqBody α) :
    ∃ st body, s.take code always b own = s.respond code st body := by
  simp only [State.take, transaction_listening hf.1, hf.2]
  split
  · contradiction
  · split
    · exact ⟨_, _, rfl⟩
    · cases b with
      | badLength => exact ⟨_, _, rfl⟩
      | args a =>
        exact ⟨_, _, congrArg (State.respond · code (own a s).status (own a s).body) (r a s)⟩

/-- Settles O15: each lookup's owner changes nothing, and no other outcome of a request does either. -/
theorem lookupsOnlyAnswer : Obligations.LookupsOnlyAnswer := by
  intro c n ok s hl hreq hf
  obtain ⟨α, b, own, r, htake⟩ := lookup_taken hl hreq
  obtain ⟨st, body, e⟩ := take_readsOnly r hf n false b
  exact ⟨st, body, by rw [htake, e]⟩

end Sys2Proof.Machine
end

section
/-! The values a reset leaves, and LOAD PROFILE (R2 to R6). -/

namespace Sys2Proof.Machine

open Sys2Proof

/-- Settles O3: the tables of the reset state are filled with one value, and the rest stands written in it. -/
theorem resetLeavesResetValues : Obligations.ResetLeavesResetValues := by
  refine ⟨rfl, fun _ => ?_, fun _ => ?_, rfl, rfl, fun _ => ?_, rfl, rfl, rfl, rfl, fun _ => ?_,
    fun _ => ?_, fun _ => ?_, rfl, rfl, rfl, rfl, rfl, rfl, rfl, rfl, rfl⟩
  all_goals exact Tab.get_fill _ _

/-! ### When a profile may be loaded (R5) -/

theorem State.reloadable_iff (s : State) :
    s.reloadable = true ↔
      s.occupied = [] ∧ (∀ h, h < 160 → (s.link h).state ≠ .checking) ∧ s.engine.queue = [] := by
  simp [State.reloadable, State.findLink_eq_none_iff, and_assoc]

/-- LOAD PROFILE is accepted: by a part that is not CONFIGURED, or that has nothing to lose (R5). -/
theorem ownLoadProfile_accepted {a : ProfileArgs} {s : State} (ha : profileBadField a = none)
    (h : s.configured = false ∨ s.reloadable = true) :
    ownLoadProfile a s = (s.installProfile (profileStored a)).okWith (.profile (profileStored a)) := by
  have ready : (s.configured && !s.reloadable) = false := by rcases h with h | h <;> simp [h]
  simp [ownLoadProfile, ha, ready]

/-- Settles O12: `State.installProfile` writes the engine and the pool, and the answer the port. -/
theorem loadProfileInstalls : Obligations.LoadProfileInstalls := by
  intro a s hf ha h
  have accepted := ownLoadProfile_accepted ha (h.imp_right s.reloadable_iff.mpr)
  have taken := take_free hf 1 a ownLoadProfile
  rw [accepted] at taken
  exact ⟨_, congrArg Host.Outcome.next taken, rfl, rfl, fun _ => Tab.get_fill _ _, rfl, rfl, rfl, rfl,
    rfl, rfl, rfl, rfl, rfl, rfl, rfl, rfl, rfl, rfl⟩

/-! ### The fields of a profile (R3, R4) -/

theorem badClassField_eq_none_iff (n : Nat) (l : List ClassArgs) :
    badClassField n l = none ↔ ∀ x, x ∈ l → 1 ≤ x.halfWidth ∧ x.halfWidth ≤ 1000 := by
  induction l generalizing n with
  | nil => simp [badClassField]
  | cons x xs ih =>
    rw [badClassField, List.forall_mem_cons, ← ih (n + 1)]
    split
    · simp; omega
    · rw [and_iff_right (by omega)]

/-- A profile that breaks no rule (R3). -/
theorem profileBadField_eq_none_iff (a : ProfileArgs) :
    profileBadField a = none ↔
      a.spanLow < a.spanHigh ∧ a.spanHigh ≤ 108000 ∧ a.origin ≤ 108000
        ∧ (a.widthCode = 6 ∨ a.widthCode = 7 ∨ a.widthCode = 8)
        ∧ ∀ x, x ∈ a.classes.rows → 1 ≤ x.halfWidth ∧ x.halfWidth ≤ 1000 := by
  rw [← badClassField_eq_none_iff 0]
  unfold profileBadField
  split
  · simp; omega
  · split
    · simp; omega
    · split
      · simp; omega
      · split
        · simp; omega
        · constructor
          · exact fun classes => ⟨by omega, by omega, by omega, by omega, classes⟩
          · rintro ⟨-, -, -, -, classes⟩
            exact classes

theorem profileStored_cls {a : ProfileArgs} {c : Nat} {x : ClassArgs} (h : a.classes.rows[c]? = some x) :
    (profileStored a).cls c = ⟨x.halfWidth, x.contributes != 0⟩ := by
  simp [Profile.cls, profileStored, Tab.get, Tab.mapIdx, List.getD_eq_getElem?_getD, h, isOn]

/-- The raster channel width is 200 steps for each of the width code (R4). -/
theorem Profile.width_eq {p : Profile} (h : p.widthCode = 6 ∨ p.widthCode = 7 ∨ p.widthCode = 8) :
    p.width = 200 * p.widthCode := by
  rcases h with h | h | h <;> simp [Profile.width, h]

/-- Settles O13: what each rule of R3 asks of a field as sent, R4's limits ask of it as stored. -/
theorem storedProfileInRange : Obligations.StoredProfileInRange := by
  intro a ha
  obtain ⟨hspan, hhigh, horigin, hwidth, hclasses⟩ := (profileBadField_eq_none_iff a).mp ha
  have halfWidths : ∀ c, c < 8 →
      1 ≤ ((profileStored a).cls c).halfWidth ∧ ((profileStored a).cls c).halfWidth ≤ 1000 := by
    intro c hc
    have sent := List.getElem?_eq_getElem (a.classes.size.symm ▸ hc : c < a.classes.rows.length)
    rw [profileStored_cls sent]
    exact hclasses _ (List.getElem_mem _)
  refine ⟨rfl, rfl, rfl, rfl, rfl, rfl, rfl, rfl, rfl, rfl, rfl, rfl, fun c x => profileStored_cls,
    hspan, hhigh, horigin, Profile.width_eq hwidth, ?_, ?_, ?_, ?_, ?_, ?_, ?_, ?_, ?_, halfWidths⟩
  all_goals simp only [profileStored, Profile.allowance, Profile.windowMs]
  all_goals omega

end Sys2Proof.Machine
end

section
/-! BLOCK and UNBLOCK: the low-pool evaluation, the sweep an IDLE engine looks for, and what the end of an
event leaves of the engine and the pool (R15, R16, R96, R97, R101). -/

namespace Sys2Proof.Machine

open Sys2Proof

/-! ### The low-pool evaluation (R101) -/

/-- What a low-pool evaluation leaves: all but the alert and the port. -/
structure SameButAlert (s t : State) : Prop where
  links : t.links = s.links
  engine : t.engine = s.engine
  slots : t.pool.slots = s.pool.slots
  threshold : t.pool.threshold = s.pool.threshold
  sweepWanted : t.pool.sweepWanted = s.pool.sweepWanted
  sweepPos : t.pool.sweepPos = s.pool.sweepPos
  talk : t.talk = s.talk
  plans : t.plans = s.plans
  radio : t.radio = s.radio
  mtx : t.mtx = s.mtx

theorem sameButAlert_lowPoolSince (n : Nat) (s : State) : SameButAlert s (s.lowPoolSince n) := by
  unfold State.lowPoolSince
  split
  · exact ⟨rfl, rfl, rfl, rfl, rfl, rfl, rfl, rfl, rfl, rfl⟩
  · unfold State.evalLowPool
    split
    · exact ⟨rfl, rfl, rfl, rfl, rfl, rfl, rfl, rfl, rfl, rfl⟩
    · split
      all_goals exact ⟨rfl, rfl, rfl, rfl, rfl, rfl, rfl, rfl, rfl, rfl⟩

/-- An event that has not touched the alert is judged by the number of CLEAR spares it leaves. -/
theorem lowPoolJudged_lowPoolSince {s u : State} (ht : u.pool.threshold = s.pool.threshold)
    (ha : u.pool.armed = s.pool.armed) :
    s.lowPoolJudged (u.lowPoolSince s.pool.clearCount) u.port := by
  have same := sameButAlert_lowPoolSince s.pool.clearCount u
  have count : (u.lowPoolSince s.pool.clearCount).pool.clearCount = u.pool.clearCount :=
    Pool.count_congr same.slots .clear
  refine ⟨same.threshold.trans ht, ?_⟩
  rw [count, ← ht, ← ha]
  unfold State.lowPoolSince State.evalLowPool
  refine ⟨?_, ?_, ?_⟩
  · rintro (unchanged | ⟨low, disarmed⟩)
    · simp [unchanged]
    · simp [Nat.not_lt.mpr low, disarmed]
  · intro changed above
    simp [changed, above]
  · intro changed low armed
    simp [changed, Nat.not_lt.mpr low, armed]

/-- An answer and a notice of one event leave the port the same in either order. -/
theorem Port.answered_queue (p : Port) (n : Notice) (r : Option Response) :
    { (p.queue n).ended with owed := r } = ({ p.ended with owed := r } : Port).queue n := by
  unfold Port.queue Port.ended
  split <;> rfl

theorem lowPoolJudged_respond {s t : State} {p : Port} (h : s.lowPoolJudged t p) (code : Nat)
    (st : Status) (body : RespBody) :
    s.lowPoolJudged (t.respond code st body) { p.ended with owed := some ⟨code, st, body⟩ } := by
  obtain ⟨threshold, kept, rearmed, alerted⟩ := h
  refine ⟨threshold, fun c => ?_, fun c d => ?_, fun c d e => ?_⟩
  · obtain ⟨armed, port⟩ := kept c
    exact ⟨armed, by rw [← port]; rfl⟩
  · obtain ⟨armed, port⟩ := rearmed c d
    exact ⟨armed, by rw [← port]; rfl⟩
  · obtain ⟨armed, port⟩ := alerted c d e
    refine ⟨armed, ?_⟩
    rw [← Port.answered_queue]
    exact congrArg (fun q : Port => { q.ended with owed := some ⟨code, st, body⟩ }) port

/-! ### BLOCK (R15) -/

theorem Pool.spoilTouching_get (pool : Pool) (p : Profile) (k i : Nat) :
    (pool.spoilTouching p k).slots.get i none = (pool.slots.get i none).map fun sp =>
      if sp.status ≠ .spoiled ∧ p.touches sp.step (p.cls sp.cls).halfWidth k then sp.spoiled else sp := by
  rw [Pool.spoilTouching, Tab.get_mapIdx _ _ _ none]
  split
  · rfl
  · rename_i out
    rw [Tab.get_out _ _ (Nat.le_of_not_lt out)]
    rfl

theorem State.lowestTouching_eq_none {s : State} {k : Nat}
    (h : ∀ c, c ∈ s.occupied → s.engine.prof.touches c.step c.half k = false) :
    s.lowestTouching k = none := by
  simpa [State.lowestTouching, List.find?_eq_none] using h

theorem ownBlock_free {s : State} {k : Nat} (hk : k ≤ 95) (hb : s.engine.blocked.get k false = false)
    (hl : s.lowestTouching k = none) : ownBlock k s = (s.blockChannel k).ok := by
  simp [ownBlock, Nat.not_lt.mpr hk, hb, hl]

theorem ownBlock_conflict {s : State} {k : Nat} {c : Party} (hk : k ≤ 95)
    (hb : s.engine.blocked.get k false = false) (hl : s.lowestTouching k = some c) :
    ownBlock k s = s.refuseWith .conflict c.at := by
  simp [ownBlock, Nat.not_lt.mpr hk, hb, hl]

theorem ownBlock_blocked {s : State} {k : Nat} (hk : k ≤ 95) (hb : s.engine.blocked.get k false = true) :
    ownBlock k s = s.ok := by
  simp [ownBlock, Nat.not_lt.mpr hk, hb]

/-- BLOCK of a channel that no carrier touches: the pool is spoiled and judged, and the map is marked. -/
theorem block_accepted {s : State} {k : Nat} (h : s.accepts) (hk : k ≤ 95)
    (hb : s.engine.blocked.get k false = false)
    (hc : ∀ c, c ∈ s.occupied → s.engine.prof.touches c.step c.half k = false) :
    exec (.block (.args k)) s = .next ((s.blockChannel k).respond 3 .ok .empty) := by
  refine congrArg Host.Outcome.next ((take_accepts h 3 false k ownBlock).trans ?_)
  rw [ownBlock_free hk hb (State.lowestTouching_eq_none hc)]
  rfl

/-! ### The sweep (R43, R61, R96, R97) -/

theorem Pool.nextSweep_eq_none {p : Pool}
    (h : ∀ i sp, p.slots.get i none = some sp → sp.status = .clear) : p.nextSweep = none := by
  rw [Pool.nextSweep, List.find?_eq_none]
  rintro ⟨sp, i⟩ m
  simp [h i sp ((p.mem_spares sp i).mp m)]

/-- A pass from slot 0 takes the lowest spare that is not CLEAR. -/
theorem Pool.nextSweep_eq_some {p : Pool} {i : Nat} {sp : Spare} (h0 : p.sweepPos = 0)
    (hi : p.slots.get i none = some sp) (hs : sp.status ≠ .clear)
    (below : ∀ j sp', j < i → p.slots.get j none = some sp' → sp'.status = .clear) :
    p.nextSweep = some (sp, i) := by
  rw [Pool.nextSweep, Pool.spares_eq, List.find?_filterMap, (List.find?_range_eq_some (i := i)).mpr]
  · simp [hi]
  · refine ⟨by simp [hi, h0, hs], List.mem_range.mpr (Tab.lt_of_get_some hi), fun j hj => ?_⟩
    cases e : p.slots.get j none with
    | none => rfl
    | some sp' => simp [below j sp' hj e]

/-- An IDLE engine that looks for sweep work from slot 0 finds what R43 and R97 say. -/
theorem swept_lookForSweep {s : State} (hi : s.engine.work = .idle) (hw : s.pool.sweepWanted = true)
    (h0 : s.pool.sweepPos = 0) : Pool.swept s.pool s.lookForSweep := by
  refine ⟨fun clear => ?_, fun i sp e notClear below => ?_⟩
  · simp [State.lookForSweep, hw, Pool.nextSweep_eq_none clear, hi]
  · rw [State.lookForSweep, if_pos hw, Pool.nextSweep_eq_some h0 e notClear below]
    simp only [Pool.mark, e]
    exact ⟨rfl, rfl⟩

/-! ### The engine and the pool at the end of an event -/

theorem finish_engine (s0 s : State) : (State.finish s0 s).engine = s.engineKick.engine := by
  obtain ⟨m, e, -⟩ := matrixKick_eq (State.oweRoutes s0 s.engineKick.radioKick)
  rw [State.finish, e]
  exact (sameButSending_radioKick s.engineKick).engine

theorem finish_pool (s0 s : State) : (State.finish s0 s).pool = s.engineKick.pool := by
  obtain ⟨m, e, -⟩ := matrixKick_eq (State.oweRoutes s0 s.engineKick.radioKick)
  rw [State.finish, e]
  exact (sameButSending_radioKick s.engineKick).pool

theorem finish_occupied (s0 s : State) : (State.finish s0 s).occupied = s.engineKick.occupied := by
  obtain ⟨m, e, -⟩ := matrixKick_eq (State.oweRoutes s0 s.engineKick.radioKick)
  have sent := sameButSending_radioKick s.engineKick
  rw [State.finish, e]
  exact State.occupied_congr (s := s.engineKick) sent.lasting (congrArg Engine.profile sent.engine)

theorem engineKick_working {s : State} (h : s.engine.work ≠ .idle) : s.engineKick = s := by
  simp [State.engineKick, h]

theorem engineKick_no_job {s : State} (h : s.engine.work = .idle) (hq : s.engine.queue = []) :
    s.engineKick = s.lookForSweep := by
  simp [State.engineKick, State.nextWork, h, hq]

/-- What a sweep finds is a matter of the engine, the pool and the carriers held. -/
theorem swept_congr {p : Pool} {t u : State} (h : p.swept t) (he : u.engine = t.engine)
    (hp : u.pool = t.pool) (ho : u.occupied = t.occupied) : p.swept u := by
  unfold Pool.swept at *
  rwa [he, hp, ho]

/-- The end of an event that has set sweep-wanted and left the engine's work and queue as in `s`. -/
theorem sweepAsked_finish {s u : State} {p : Pool}
    (hp : u.pool = { p with sweepWanted := true, sweepPos := 0 })
    (hw : u.engine.work = s.engine.work) (hq : u.engine.queue = s.engine.queue) (s0 : State) :
    s.sweepAsked p (State.finish s0 u) := by
  refine ⟨fun working => ?_, fun idle empty => ?_⟩
  · rw [finish_pool, finish_engine, engineKick_working (hw.symm ▸ working)]
    exact ⟨hp, hw⟩
  · have looked := engineKick_no_job (hw.trans idle) (hq.trans empty)
    refine swept_congr (t := u.lookForSweep) ?_ ?_ ?_ ?_
    · rw [← hp]
      exact swept_lookForSweep (hw.trans idle) (by rw [hp]) (by rw [hp])
    · rw [finish_engine, looked]
    · rw [finish_pool, looked]
    · rw [finish_occupied, looked]

theorem sweepAsked_respond {s t : State} {p : Pool} (h : s.sweepAsked p t) (code : Nat) (st : Status)
    (body : RespBody) : s.sweepAsked p (t.respond code st body) := h

/-- Marking what judges a spare changes no other field of any spare. -/
theorem Pool.mark_kept (p : Pool) (slot i : Nat) (u : InUse) :
    ((p.mark slot u).slots.get i none).map (fun sp => { sp with inUse := .none })
      = (p.slots.get i none).map fun sp => { sp with inUse := .none } := by
  unfold Pool.mark
  split
  · rename_i sp e
    rw [Pool.setSlot, Tab.get_set]
    split
    · rename_i c
      rw [c.1, e]
      rfl
    · rfl
  · rfl

theorem slotKept_lookForSweep (s : State) (i : Nat) : s.slotKept s.lookForSweep i := by
  unfold State.lookForSweep
  split
  · split
    · exact Pool.mark_kept s.pool _ i .sweep
    · rfl
  · rfl

/-- A quiet engine's choice of work marks a spare at most. -/
theorem slotKept_engineKick {s : State} (q : s.quiet) (i : Nat) : s.slotKept s.engineKick i := by
  unfold State.engineKick
  split
  · rename_i idle
    unfold State.nextWork
    split
    · exact slotKept_lookForSweep s i
    · rename_i j js queue
      split
      · rfl
      · rename_i step
        split
        · exact Pool.mark_kept s.pool _ i .trial
        · rename_i pick
          have := q idle j (by rw [queue]; rfl)
          simp [step, pick] at this
  · rfl

theorem slotKept_finish (s0 : State) {s : State} (q : s.quiet) (i : Nat) :
    s.slotKept (State.finish s0 s) i := by
  unfold State.slotKept
  rw [finish_pool]
  exact slotKept_engineKick q i

theorem status_of_slotKept {s t : State} {i : Nat} (h : s.slotKept t i) :
    (t.pool.slots.get i none).map (·.status) = (s.pool.slots.get i none).map (·.status) := by
  simpa [Option.map_map, Function.comp_def] using congrArg (Option.map Spare.status) h

/-! ### UNBLOCK (R16) -/

/-- Channel `k` cleared and sweep-wanted set. -/
def State.unblockChannel (s : State) (k : Nat) : State :=
  (s.setEngine { s.engine with blocked := s.engine.blocked.set k false }).wantSweep

theorem ownUnblock_blocked {s : State} {k : Nat} (hk : k ≤ 95)
    (hb : s.engine.blocked.get k false = true) :
    ownUnblock k s = State.done s (s.unblockChannel k) .ok .empty := by
  simp [ownUnblock, Nat.not_lt.mpr hk, hb, State.unblockChannel]

theorem ownUnblock_free {s : State} {k : Nat} (hk : k ≤ 95)
    (hb : s.engine.blocked.get k false = false) : ownUnblock k s = s.ok := by
  simp [ownUnblock, Nat.not_lt.mpr hk, hb]

theorem unblock_accepted {s : State} {k : Nat} (h : s.accepts) (hk : k ≤ 95)
    (hb : s.engine.blocked.get k false = true) :
    exec (.unblock (.args k)) s
      = .next ((State.finish s (s.unblockChannel k)).respond 4 .ok .empty) := by
  refine congrArg Host.Outcome.next ((take_accepts h 4 false k ownUnblock).trans ?_)
  rw [ownUnblock_blocked hk hb]
  rfl

/-- A spare named for a pool job is named whatever the sweep's flags: UNBLOCK leaves a quiet engine quiet. -/
theorem quiet_unblockChannel {s : State} (q : s.quiet) (k : Nat) : (s.unblockChannel k).quiet := q

/-! ### The statement -/

theorem block_marks_channel (k : Nat) (s : State) (h : s.accepts) (hk : k ≤ 95)
    (hb : s.engine.blocked.get k false = false)
    (hc : ∀ c, c ∈ s.occupied → s.engine.prof.touches c.step c.half k = false) :
    ∃ t, exec (.block (.args k)) s = .next t ∧ t.port.owed = some ⟨3, .ok, .empty⟩
      ∧ t.engine = { s.engine with blocked := s.engine.blocked.set k true }
      ∧ (∀ i, t.pool.slots.get i none = (s.pool.slots.get i none).map fun sp =>
          if sp.status ≠ .spoiled
              ∧ s.engine.prof.touches sp.step (s.engine.prof.cls sp.cls).halfWidth k = true
            then { sp with status := .spoiled, margin := none } else sp)
      ∧ t.pool.sweepWanted = s.pool.sweepWanted ∧ t.pool.sweepPos = s.pool.sweepPos
      ∧ s.lowPoolJudged t { s.port.ended with owed := some ⟨3, .ok, .empty⟩ }
      ∧ t.links = s.links ∧ t.talk = s.talk ∧ t.plans = s.plans ∧ t.radio = s.radio ∧ t.mtx = s.mtx
      ∧ s.sameOutside t := by
  refine ⟨_, block_accepted h hk hb hc, rfl, ?_⟩
  unfold State.blockChannel
  generalize hu : (s.setEngine _).setPool _ = u
  have same := sameButAlert_lowPoolSince s.pool.clearCount u
  have outside := sameOutside_lowPoolSince s.pool.clearCount u
  have judged : s.lowPoolJudged (u.lowPoolSince s.pool.clearCount) u.port :=
    lowPoolJudged_lowPoolSince (by subst hu; rfl) (by subst hu; rfl)
  generalize u.lowPoolSince s.pool.clearCount = v at same outside judged ⊢
  subst hu
  refine ⟨same.engine, fun i => ?_, same.sweepWanted, same.sweepPos,
    lowPoolJudged_respond judged 3 .ok .empty, same.links, same.talk,
    same.plans, same.radio, same.mtx, outside.same⟩
  exact (congrArg (Tab.get · i none) same.slots).trans (Pool.spoilTouching_get _ _ k i)

/-- Settles O14: BLOCK is decided by `State.lowestTouching` and judged by the low-pool evaluation; UNBLOCK
ends as an event that has asked for a sweep. -/
theorem blockAndUnblockChannels : Obligations.BlockAndUnblockChannels := by
  refine ⟨block_marks_channel, fun k h o c s hs hk hb hfind hkey => ?_, fun k s hs hk hb q => ?_,
    fun k s hs hk => ⟨fun hb => ?_, fun hb => ?_⟩⟩
  · refine congrArg Host.Outcome.next ((take_accepts hs 3 false k ownBlock).trans ?_)
    rw [ownBlock_conflict hk hb hfind, Party.at, hkey]
    rfl
  · have kept := sameButEnd_finish s (quiet_unblockChannel q k)
    refine ⟨_, unblock_accepted hs hk hb, ?_, kept.blocked, kept.profile, kept.queue,
      sweepAsked_respond (sweepAsked_finish (u := s.unblockChannel k) rfl rfl rfl s) 4 .ok .empty,
      fun i => status_of_slotKept (slotKept_finish s (quiet_unblockChannel q k) i),
      kept.lasting, kept.talk, kept.plans, kept.outside.same⟩
    exact done_answeredOnly s (quiet_unblockChannel q k) 4 .ok .empty
  · refine congrArg Host.Outcome.next ((take_accepts hs 3 false k ownBlock).trans ?_)
    rw [ownBlock_blocked hk hb]
    rfl
  · refine congrArg Host.Outcome.next ((take_accepts hs 4 false k ownUnblock).trans ?_)
    rw [ownUnblock_free hk hb]
    rfl

end Sys2Proof.Machine
end

section
/-! What the table reads answer: pages, places and times remaining (R7, R34, R94, R130, R155, R156, R167). -/

namespace Sys2Proof.Machine

open Sys2Proof

/-- A request whose owner answers OK and changes nothing. -/
theorem take_okWith {α : Type} {s : State} (h : s.accepts) {own : α → State → Answer} {a : α}
    {body : RespBody} (ho : own a s = s.okWith body) (code : Nat) :
    s.take code false (.args a) own = s.respond code .ok body := by
  rw [take_accepts h, ho]; rfl

/-! ### The blocked channels (R7) -/

theorem blockedList_pairwise (m : Tab 96 Bool) : (blockedList m).Pairwise (· < ·) :=
  List.Pairwise.filter _ List.pairwise_lt_range

theorem mem_blockedList (m : Tab 96 Bool) (k : Nat) :
    k ∈ blockedList m ↔ k < 96 ∧ m.get k false = true := by
  simp [blockedList]

/-! ### Pages (R38, R94, R167) -/

theorem nextPage_short {top : Nat} {page : List Nat} (h : page.length < 16) : nextPage top page = none := by
  unfold nextPage
  split
  · rw [if_neg (by omega)]
  · rfl

theorem nextPage_full {top h : Nat} {page : List Nat} (hl : page.length ≤ 16) (hp : page[15]? = some h) :
    nextPage top page = if h < top then some (h + 1) else none := by
  have len : page.length = 16 := by
    have := (List.getElem?_eq_some_iff.mp hp).1
    omega
  simp only [nextPage, List.getLast?_eq_getElem?, len, Nat.reduceSub, hp, true_and]

/-! ### The pool (R94) -/

theorem Pool.page_slots (p : Pool) (i : Nat) :
    (p.page i).map (·.1)
      = ((List.range 32).filter fun j => decide (i ≤ j) && (p.slots.get j none).isSome).take 16 := by
  have guarded : ∀ j, ((((p.slots.get j none).map fun sp => (sp, j)).filter fun x => decide (i ≤ x.2)).map
      (·.2)) = Option.guard (fun j => decide (i ≤ j) && (p.slots.get j none).isSome) j := by
    intro j
    cases e : p.slots.get j none with
    | none => simp [Option.guard, e]
    | some sp => by_cases h : i ≤ j <;> simp [Option.filter_some, Option.guard, e, h]
  rw [Pool.page, List.map_map, List.map_take, Pool.spares_eq, List.filter_filterMap]
  exact congrArg (List.take 16) <| by
    rw [List.map_filterMap, ← List.filterMap_eq_filter]
    exact congrArg (List.filterMap · (List.range 32)) (funext guarded)

theorem Pool.mem_page {p : Pool} {i j : Nat} {sp : Spare} (h : (j, sp) ∈ p.page i) :
    i ≤ j ∧ p.slots.get j none = some sp := by
  simp only [Pool.page, List.mem_map, Prod.mk.injEq] at h
  obtain ⟨⟨_, _⟩, m, rfl, rfl⟩ := h
  obtain ⟨spare, from_start⟩ := List.mem_filter.mp (List.mem_of_mem_take m)
  exact ⟨of_decide_eq_true from_start, (p.mem_spares _ _).mp spare⟩

theorem Pool.page_length_le (p : Pool) (i : Nat) : (p.page i).length ≤ 16 := by
  simp [Pool.page, List.length_take]

theorem Pool.report_counts (p : Pool) (i : Nat) :
    (p.report i).clear = p.slots.rows.countP (fun x => x.any fun sp => sp.status == .clear)
      ∧ (p.report i).unchecked = p.slots.rows.countP (fun x => x.any fun sp => sp.status == .unchecked)
      ∧ (p.report i).spoiled = p.slots.rows.countP (fun x => x.any fun sp => sp.status == .spoiled)
      ∧ (p.report i).free = p.slots.rows.countP (·.isNone)
      ∧ (p.report i).clear + (p.report i).unchecked + (p.report i).spoiled + (p.report i).free = 32 := by
  have parts := p.counts_add_up
  have whole := p.free_add_spares
  have free : (p.report i).free = p.slots.rows.countP (·.isNone) := by
    show 32 - p.spares.length = _
    omega
  refine ⟨p.count_eq .clear, p.count_eq .unchecked, p.count_eq .spoiled, free, ?_⟩
  rw [free]
  show p.count .clear + p.count .unchecked + p.count .spoiled + _ = 32
  omega

theorem Pool.report_next_short {p : Pool} {i : Nat} (h : (p.report i).entries.length < 16) :
    (p.report i).next = none :=
  nextPage_short (by rwa [List.length_map])

theorem Pool.report_next_full {p : Pool} {i : Nat} {x : Nat × Spare}
    (h : (p.report i).entries[15]? = some x) :
    (p.report i).next = if x.1 < 31 then some (x.1 + 1) else none :=
  nextPage_full (by rw [List.length_map]; exact p.page_length_le i)
    (by rw [List.getElem?_map]; exact congrArg (Option.map _) h)

/-! ### Keys and destinations (R155, R156) -/

theorem State.keyRemaining_eq (s : State) (k : Nat) :
    s.keyRemaining k = (s.talk.key k).bind fun x => x.deadline.map fun z => z - s.now := by
  unfold State.keyRemaining
  split <;> rename_i e <;> rw [e] <;> rfl

theorem placeIn_of_not_mem {k : Nat} {l : List Nat} (h : k ∉ l) : placeIn k l = none := by
  simp [placeIn, h]

/-- The place reported is that of the key's first occurrence, counting from 1. -/
theorem placeIn_of_mem {k : Nat} {l : List Nat} (h : k ∈ l) :
    ∃ n, placeIn k l = some (n + 1) ∧ l[n]? = some k ∧ k ∉ l.take n := by
  refine ⟨l.idxOf k, by simp [placeIn, h], List.getElem?_idxOf h, ?_⟩
  rw [List.mem_take_iff_idxOf_lt h]
  exact Nat.lt_irrefl _

theorem State.keyReport_places {s : State} {k : Nat} {x : Key} {d : Dest}
    (h : s.talk.dest x.dest = some d) :
    (k ∉ d.requests → (s.keyReport k x).requestPlace = none)
      ∧ (k ∈ d.requests → ∃ n, (s.keyReport k x).requestPlace = some (n + 1) ∧ d.requests[n]? = some k
        ∧ k ∉ d.requests.take n)
      ∧ (k ∈ d.ring x.level → ∃ n, (s.keyReport k x).ringPlace = n + 1 ∧ (d.ring x.level)[n]? = some k
        ∧ k ∉ (d.ring x.level).take n) := by
  have request : (s.keyReport k x).requestPlace = placeIn k d.requests := by
    simp [State.keyReport, h]
  have ring : (s.keyReport k x).ringPlace = (placeIn k (d.ring x.level)).getD 0 := by
    simp [State.keyReport, h]
  rw [request, ring]
  refine ⟨placeIn_of_not_mem, placeIn_of_mem, fun m => ?_⟩
  obtain ⟨n, place, at_n, first⟩ := placeIn_of_mem m
  exact ⟨n, by rw [place]; rfl, at_n, first⟩

theorem ownQueryDest_eq {id : Nat} (hid : id ≤ 31) (s : State) :
    ownQueryDest id s
      = s.okWith (.dest id ((s.talk.dest id).map s.destReport) (s.mtx.owed.get id false)) := by
  rw [ownQueryDest, if_neg (Nat.not_lt.mpr hid)]

theorem ownQueryKey_eq {k : Nat} (hk : k ≤ 95) (s : State) :
    ownQueryKey k s = s.okWith (.key k ((s.talk.key k).map (s.keyReport k))) := by
  rw [ownQueryKey, if_neg (Nat.not_lt.mpr hk)]

theorem State.destReport_talking (s : State) (d : Dest) :
    (s.destReport d).talking.map (·.1) = d.talking
      ∧ ∀ y, y ∈ (s.destReport d).talking →
          y.2 = (s.talk.key y.1).bind fun x => x.deadline.map fun z => z - s.now := by
  constructor
  · show (d.talking.map fun k => (k, s.keyRemaining k)).map (·.1) = d.talking
    simp [Function.comp_def]
  · intro y hy
    obtain ⟨k, -, rfl⟩ := List.mem_map.mp hy
    exact s.keyRemaining_eq k

/-! ### Plans (R167) -/

theorem Plans.named_eq {w : Nat} (hw : w ≤ 1) (ps : Plans) :
    ps.named w = some (if w = 0 then ps.pending else ps.active) := by
  rcases Nat.le_one_iff_eq_zero_or_eq_one.mp hw with rfl | rfl <;> rfl

theorem ownReadPlan_eq {w h : Nat} (hw : w ≤ 1) (hh : h ≤ 159) (s : State) :
    ownReadPlan ⟨w, h⟩ s
      = s.okWith (.plan (s.plans.report (if w = 0 then s.plans.pending else s.plans.active) h)) := by
  simp [ownReadPlan, Plans.named_eq hw, handleOk, hh]

theorem Plans.report_next_short {ps : Plans} {p : Plan} {i : Nat}
    (h : (ps.report p i).entries.length < 16) : (ps.report p i).next = none :=
  nextPage_short (by rwa [List.length_map])

theorem Plans.report_next_full {ps : Plans} {p : Plan} {i : Nat} {e : Pack}
    (h : (ps.report p i).entries[15]? = some e) :
    (ps.report p i).next = if e.handle < 159 then some (e.handle + 1) else none :=
  nextPage_full (by rw [List.length_map]; exact List.length_take_le 16 _)
    (by rw [List.getElem?_map]; exact congrArg (Option.map _) h)

/-! ### The statement -/

/-- Settles O16: each owner answers with the report of its table, and each report is what its rule names. -/
theorem tableReadsAnswer : Obligations.TableReadsAnswer := by
  intro s hs
  refine ⟨⟨?_, blockedList_pairwise _, mem_blockedList _⟩, fun h hh => ?_, fun i hi => ?_, ?_,
    fun id hid undefined => ?_, fun id d hid defined => ?_, fun k hk undefined => ?_,
    fun k x hk defined => ?_,
    fun w h hw hh => ?_⟩
  · exact congrArg Host.Outcome.next (take_okWith hs rfl 2)
  · have own : ownQueryLink h s = s.okWith (.link (s.linkReport h)) := by simp [ownQueryLink, handleOk, hh]
    exact congrArg Host.Outcome.next (take_okWith hs own 5)
  · have own : ownReadPool i s = s.okWith (.pool (s.pool.report i)) := by
      rw [ownReadPool, if_neg (Nat.not_lt.mpr hi)]
    obtain ⟨clear, unchecked, spoiled, free, total⟩ := s.pool.report_counts i
    exact ⟨_, congrArg Host.Outcome.next (take_okWith hs own 21), clear, unchecked, spoiled, free, total,
      rfl, rfl, rfl, s.pool.page_slots i, fun _ _ => Pool.mem_page, Pool.report_next_short,
      fun _ => Pool.report_next_full⟩
  · exact congrArg Host.Outcome.next (take_okWith hs rfl 31)
  · have own := ownQueryDest_eq hid s
    rw [undefined] at own
    exact congrArg Host.Outcome.next (take_okWith hs own 40)
  · have own := ownQueryDest_eq hid s
    rw [defined] at own
    obtain ⟨talking, remaining⟩ := s.destReport_talking d
    exact ⟨s.destReport d, congrArg Host.Outcome.next (take_okWith hs own 40), rfl, talking, rfl, remaining⟩
  · have own := ownQueryKey_eq hk s
    rw [undefined] at own
    exact congrArg Host.Outcome.next (take_okWith hs own 41)
  · have own := ownQueryKey_eq hk s
    rw [defined] at own
    exact ⟨s.keyReport k x, congrArg Host.Outcome.next (take_okWith hs own 41), rfl, rfl,
      fun d => State.keyReport_places⟩
  · refine ⟨_, congrArg Host.Outcome.next (take_okWith hs (ownReadPlan_eq hw hh s) 47), rfl, rfl,
      ?_, ?_, ?_, Plans.report_next_short, fun _ => Plans.report_next_full⟩
    all_goals split <;> rfl

end Sys2Proof.Machine
end

section
/-! The lookups of the Link Table by label, input, step and state, and the requests that write a label or a
policy (R32, R33, R35 to R38). -/

namespace Sys2Proof.Machine

open Sys2Proof

/-- A request whose owner refuses it and changes nothing. -/
theorem take_refuse {α : Type} {s : State} (h : s.accepts) {own : α → State → Answer} {a : α}
    {st : Status} (ho : own a s = s.refuse st) (code : Nat) :
    s.take code false (.args a) own = s.respond code st .empty := by
  rw [take_accepts h, ho]; rfl

/-! ### Scans of the Link Table -/

theorem State.findLink_eq_some_iff (s : State) (p : Link → Bool) (h : Nat) :
    s.findLink p = some h ↔
      h < 160 ∧ p (s.link h) = true ∧ ∀ g, g < h → p (s.link g) = false := by
  rw [State.findLink_eq, List.find?_range_eq_some]
  simp only [List.mem_range, Bool.not_eq_eq_eq_not, Bool.not_true]
  tauto

/-- A scan for a record that is there finds one. -/
theorem State.findLink_exists {s : State} {p : Link → Bool} {g : Nat} (hg : g < 160)
    (hp : p (s.link g) = true) : ∃ h, s.findLink p = some h ∧ h < 160 ∧ p (s.link h) = true := by
  cases e : s.findLink p with
  | none => simp [(s.findLink_eq_none_iff p).mp e g hg] at hp
  | some h =>
    obtain ⟨lt, found, -⟩ := (s.findLink_eq_some_iff p h).mp e
    exact ⟨h, rfl, lt, found⟩

/-- The handles below 160 whose records satisfy a condition, as a filter of the table gives them. -/
theorem State.filter_links_eq (s : State) (p : Link × Nat → Bool) :
    (s.links.entries.filter p).map (·.2) = (List.range 160).filter fun h => p (s.link h, h) := by
  rw [s.links.entries_eq Link.free, List.filter_map, List.map_map]
  exact List.map_id' _

/-! ### FIND LABEL (R31, R35) -/

theorem State.labelled_eq_none_iff (s : State) (l : List Nat) :
    s.labelled l = none ↔ ∀ g, g < 160 → (s.link g).state = .free ∨ (s.link g).label ≠ l := by
  simp [State.labelled, State.findLink_eq_none_iff, or_iff_not_imp_left]

theorem State.labelled_exists {s : State} {l : List Nat}
    (e : ∃ g, g < 160 ∧ (s.link g).state ≠ .free ∧ (s.link g).label = l) :
    ∃ h, s.labelled l = some h ∧ h < 160 ∧ (s.link h).state ≠ .free ∧ (s.link h).label = l := by
  obtain ⟨g, hg, occupied, label⟩ := e
  obtain ⟨h, found, lt, carries⟩ := State.findLink_exists (s := s)
    (p := fun x => x.state != .free && x.label == l) hg (by simp [occupied, label])
  exact ⟨h, found, lt, by simpa using carries⟩

/-- Settles O17: the label index is a scan of the Link Table. -/
theorem findLabelAnswers : Obligations.FindLabelAnswers := by
  intro l s hs
  refine ⟨fun bad => ?_, fun good e => ?_, fun good none => ?_⟩
  · exact congrArg Host.Outcome.next (take_refuse hs (by simp [ownFindLabel, bad]) 6)
  · obtain ⟨h, found, lt, occupied, label⟩ := State.labelled_exists e
    exact ⟨h, lt, occupied, label,
      congrArg Host.Outcome.next (take_okWith hs (by simp [ownFindLabel, good, found]) 6)⟩
  · have absent := (s.labelled_eq_none_iff l).mpr none
    exact congrArg Host.Outcome.next (take_refuse hs (by simp [ownFindLabel, good, absent]) 6)

/-! ### FIND BINDING (R37) -/

theorem bindingOf_in_range {x i : Nat} {src : Source} (hx : sourceOf x = some src) (h1 : 1 ≤ i)
    (h2 : i ≤ sourceInputs src) : bindingOf x i = some ⟨src, i⟩ := by
  simp [bindingOf, hx, inputOk, h1, h2]

theorem inputOk_eq_false {src : Source} {i : Nat} (h : i = 0 ∨ sourceInputs src < i) :
    inputOk src i = false := by
  simp only [inputOk, Bool.and_eq_false_iff, decide_eq_false_iff_not]
  omega

theorem bindingOf_out_of_range {x i : Nat} (h : 2 < x ∨ i = 0 ∨ (x = 0 ∧ 48 < i) ∨ (x ≠ 0 ∧ 24 < i)) :
    bindingOf x i = none := by
  have input : ∀ src, sourceOf x = some src → inputOk src i = false := by
    intro src hx
    apply inputOk_eq_false
    match x, hx with
    | 0, rfl => simp only [sourceInputs]; omega
    | 1, rfl => simp only [sourceInputs]; omega
    | 2, rfl => simp only [sourceInputs]; omega
  unfold bindingOf
  split
  · rename_i src hx
    simp [input src hx]
  · rfl

theorem State.boundTo_exists {s : State} {b : Binding} (e : ∃ g, g < 160 ∧ b ∈ (s.link g).bindings) :
    ∃ h, s.boundTo b = some h ∧ h < 160 ∧ b ∈ (s.link h).bindings := by
  obtain ⟨g, hg, bound⟩ := e
  obtain ⟨h, found, lt, holds⟩ := State.findLink_exists (s := s)
    (p := fun l => l.bindings.contains b) hg (by simpa using bound)
  exact ⟨h, found, lt, by simpa using holds⟩

theorem State.boundTo_eq_none_iff (s : State) (b : Binding) :
    s.boundTo b = none ↔ ∀ g, g < 160 → b ∉ (s.link g).bindings := by
  simp [State.boundTo, State.findLink_eq_none_iff]

theorem State.boundTo_eq_some_iff (s : State) (b : Binding) (h : Nat) :
    s.boundTo b = some h ↔
      h < 160 ∧ b ∈ (s.link h).bindings ∧ ∀ g, g < h → b ∉ (s.link g).bindings := by
  simp [State.boundTo, State.findLink_eq_some_iff]

/-- Settles O18: the fields are judged by the sizes of the sources alone, and the index of the bindings is a
scan of the Link Table. -/
theorem findBindingAnswers : Obligations.FindBindingAnswers := by
  intro x i s hs
  refine ⟨fun out => ?_, fun src hx h1 h2 => ⟨?_, fun none => ?_⟩⟩
  · exact congrArg Host.Outcome.next
      (take_refuse hs (by simp [ownFindBinding, bindingOf_out_of_range out]) 8)
  · intro e
    obtain ⟨h, found, lt, bound⟩ := State.boundTo_exists e
    have own : ownFindBinding ⟨x, i⟩ s = s.okWith (.handle h) := by
      simp [ownFindBinding, bindingOf_in_range hx h1 h2, found]
    exact ⟨h, lt, bound, congrArg Host.Outcome.next (take_okWith hs own 8)⟩
  · have own : ownFindBinding ⟨x, i⟩ s = s.refuse .noLink := by
      simp [ownFindBinding, bindingOf_in_range hx h1 h2, (s.boundTo_eq_none_iff _).mpr none]
    exact congrArg Host.Outcome.next (take_refuse hs own 8)

/-! ### FIND FREQUENCY and LIST LINKS (R36, R38) -/

theorem State.covering_eq (s : State) (f : Nat) :
    s.covering f = (List.range 160).filter fun h => (s.link h).covers s.engine.prof f :=
  s.filter_links_eq _

theorem State.filtered_eq (s : State) (m : BitVec 16) (start : Nat) :
    s.filtered m start
      = (List.range 160).filter fun h => decide (start ≤ h) && inFilter m (s.link h).state :=
  s.filter_links_eq _

theorem State.covering_pairwise (s : State) (f : Nat) : (s.covering f).Pairwise (· < ·) := by
  rw [State.covering_eq]
  exact List.pairwise_lt_range.filter _

theorem State.filtered_pairwise (s : State) (m : BitVec 16) (start : Nat) :
    (s.filtered m start).Pairwise (· < ·) := by
  rw [State.filtered_eq]
  exact List.pairwise_lt_range.filter _

theorem State.mem_covering (s : State) (f h : Nat) :
    h ∈ s.covering f ↔ h < 160 ∧ ∃ x, x ∈ (s.link h).held
      ∧ ((f : Int) - x.2).natAbs ≤ (s.engine.prof.cls ((s.link h).cls.getD 0)).halfWidth := by
  simp [State.covering_eq, Link.covers]

theorem State.mem_filtered (s : State) (m : BitVec 16) (start h : Nat) :
    h ∈ s.filtered m start ↔ start ≤ h ∧ h < 160 ∧ m.getLsbD (s.link h).state.code = true := by
  simp [State.filtered_eq, inFilter]
  tauto

/-- Where a page of the first 16 of a list goes on (R38). -/
theorem nextPage_take_full {top h : Nat} {l : List Nat} (e : l[15]? = some h) :
    nextPage top (l.take 16) = if h < top then some (h + 1) else none :=
  nextPage_full (List.length_take_le 16 l) (by simpa [List.getElem?_take] using e)

theorem nextPage_take_short {top : Nat} {l : List Nat} (h : l.length < 16) :
    nextPage top (l.take 16) = none :=
  nextPage_short (by rw [List.length_take]; omega)

/-- Settles O19: both lists are filters of the handles in ascending order. -/
theorem findFrequencyAndListLinks : Obligations.FindFrequencyAndListLinks := by
  refine ⟨fun f s hs => ⟨fun out => ?_, fun inside => ?_⟩,
    fun m start s hs => ⟨fun bad => ?_, fun hm hstart => ?_⟩⟩
  · have own : ownFindFrequency f s = s.refuse .badArgument := by
      simp [ownFindFrequency, stepOk, Nat.not_le.mpr out]
    exact congrArg Host.Outcome.next (take_refuse hs own 7)
  · have own : ownFindFrequency f s
        = s.okWith (.frequency (s.covering f).length ((s.covering f).take 4)) := by
      simp [ownFindFrequency, stepOk, inside]
    exact ⟨s.covering f, s.covering_pairwise f, s.mem_covering f,
      congrArg Host.Outcome.next (take_okWith hs own 7)⟩
  · have own : ownListLinks ⟨m, start⟩ s = s.refuse .badArgument := by
      have : m.setWidth 10 = 0 ∨ (!handleOk start) = true := by simpa [handleOk] using bad
      exact if_pos this
    exact congrArg Host.Outcome.next (take_refuse hs own 9)
  · have own : ownListLinks ⟨m, start⟩ s = s.okWith (.links ((s.filtered m start).take 16)
        (nextPage 159 ((s.filtered m start).take 16))) := by
      have : ¬ (m.setWidth 10 = 0 ∨ (!handleOk start) = true) := by
        simpa [handleOk, hstart] using hm
      exact if_neg this
    refine ⟨s.filtered m start, _, s.filtered_pairwise m start, s.mem_filtered m start,
      congrArg Host.Outcome.next (take_okWith hs own 9), nextPage_take_short, fun h e lt => ?_,
      fun e => ?_⟩
    · rw [nextPage_take_full e, if_pos lt]
    · rw [nextPage_take_full e, if_neg (Nat.lt_irrefl 159)]

/-! ### SET LABEL and SET POLICY (R29, R32, R33) -/

/-- The occupied states are those a request about an occupied link takes (R22). -/
theorem LinkState.occupied_iff (st : LinkState) : st.occupied = true ↔ st ≠ .free ∧ st ≠ .checking := by
  cases st <;> simp [LinkState.occupied]

theorem handleOk_iff (h : Nat) : handleOk h = true ↔ h ≤ 159 := by simp [handleOk]

theorem withLink_bad {s : State} {h : Nat} {argsOk : Bool} (bad : 159 < h ∨ argsOk = false)
    (k : Link → Answer) : s.withLink h argsOk k = s.refuse .badArgument := by
  have : (!handleOk h || !argsOk) = true := by
    rcases bad with out | args
    · simp [handleOk, Nat.not_le.mpr out]
    · simp [args]
  rw [State.withLink, if_pos this]

theorem withLink_free {s : State} {h : Nat} (hh : h ≤ 159) (hf : (s.link h).state = .free)
    (k : Link → Answer) : s.withLink h true k = s.refuse .noLink := by
  simp [State.withLink, (handleOk_iff h).mpr hh, hf]

/-- What SET LABEL does at an occupied link whose label is another (R32). -/
theorem ownSetLabel_occupied {s : State} {h : Nat} {l : List Nat} (hh : h ≤ 159)
    (hl : labelOk l = true) (ho : (s.link h).state.occupied = true) :
    ownSetLabel ⟨h, l⟩ s =
      if (s.link h).label = l then s.ok
      else if (s.labelled l).isSome then s.refuse .duplicate
      else (s.setLink h { s.link h with label := l }).ok := by
  obtain ⟨notFree, notChecking⟩ := (LinkState.occupied_iff _).mp ho
  simp only [ownSetLabel, hl]
  rw [withLink_exists ((handleOk_iff h).mpr hh) notFree, if_neg notChecking]

theorem ownSetLabel_free {s : State} {h : Nat} {l : List Nat} (hh : h ≤ 159) (hl : labelOk l = true)
    (hf : (s.link h).state = .free) : ownSetLabel ⟨h, l⟩ s = s.refuse .noLink := by
  simp only [ownSetLabel, hl]
  exact withLink_free hh hf _

theorem ownSetLabel_checking {s : State} {h : Nat} {l : List Nat} (hh : h ≤ 159)
    (hl : labelOk l = true) (hc : (s.link h).state = .checking) :
    ownSetLabel ⟨h, l⟩ s = s.refuse .busy := by
  simp only [ownSetLabel, hl]
  rw [withLink_exists ((handleOk_iff h).mpr hh) (by simp [hc]), if_pos hc]

theorem policyOf_isSome (p : Nat) : (policyOf p).isSome = decide (p ≤ 2) := by
  match p with
  | 0 => rfl
  | 1 => rfl
  | 2 => rfl
  | _ + 3 => simp [policyOf]

/-- SET POLICY at a link that is not FREE (R33). -/
theorem ownSetPolicy_exists {s : State} {h p : Nat} (hh : h ≤ 159) (hp : p ≤ 2)
    (hf : (s.link h).state ≠ .free) :
    ownSetPolicy ⟨h, p⟩ s =
      if (s.link h).state = .checking then s.refuse .busy
      else (s.setLink h { s.link h with policy := policyOf p }).ok := by
  have defined : (policyOf p).isSome = true := by simp [policyOf_isSome, hp]
  simp only [ownSetPolicy, defined]
  exact withLink_exists ((handleOk_iff h).mpr hh) hf _

/-- Settles O21: both requests are decided by R29's order, and then by the state and the label of the
record. -/
theorem labelAndPolicy : Obligations.LabelAndPolicy := by
  refine ⟨fun h l s hs => ⟨fun bad => ?_, fun hh hl => ⟨fun free => ?_, fun checking => ?_,
    fun ho same => ?_, fun ho other carried => ?_, fun ho other none => ?_⟩⟩,
    fun h p s hs => ⟨fun bad => ?_, fun hh hp free => ?_, fun hh hp checking => ?_, fun hh hp ho => ?_⟩⟩
  · exact congrArg Host.Outcome.next (take_refuse hs (withLink_bad bad _) 10)
  · exact congrArg Host.Outcome.next (take_refuse hs (ownSetLabel_free hh hl free) 10)
  · exact congrArg Host.Outcome.next (take_refuse hs (ownSetLabel_checking hh hl checking) 10)
  · have own := ownSetLabel_occupied hh hl ho
    rw [if_pos same] at own
    exact congrArg Host.Outcome.next (take_okWith hs own 10)
  · obtain ⟨g, found, -⟩ := State.labelled_exists carried
    have own := ownSetLabel_occupied hh hl ho
    rw [if_neg other, found] at own
    exact congrArg Host.Outcome.next (take_refuse hs own 10)
  · have own := ownSetLabel_occupied hh hl ho
    rw [if_neg other, (s.labelled_eq_none_iff l).mpr none] at own
    refine congrArg Host.Outcome.next ((take_accepts hs 10 false _ ownSetLabel).trans ?_)
    rw [own]
    rfl
  · have own : ownSetPolicy ⟨h, p⟩ s = s.refuse .badArgument :=
      withLink_bad (bad.imp_right fun out => by simp [policyOf_isSome, out]) _
    exact congrArg Host.Outcome.next (take_refuse hs own 11)
  · have own : ownSetPolicy ⟨h, p⟩ s = s.refuse .noLink := by
      simp only [ownSetPolicy, policyOf_isSome, decide_eq_true hp]
      exact withLink_free hh free _
    exact congrArg Host.Outcome.next (take_refuse hs own 11)
  · have own := ownSetPolicy_exists (s := s) hh hp (by simp [checking])
    rw [if_pos checking] at own
    exact congrArg Host.Outcome.next (take_refuse hs own 11)
  · obtain ⟨notFree, notChecking⟩ := (LinkState.occupied_iff _).mp ho
    have own := ownSetPolicy_exists hh hp notFree
    rw [if_neg notChecking] at own
    refine congrArg Host.Outcome.next ((take_accepts hs 11 false _ ownSetPolicy).trans ?_)
    rw [own]
    rfl

end Sys2Proof.Machine
end

section
/-! A request answered with anything but OK or QUEUED changes nothing beside its answer (R29, R181): each
owner's answers, in the order of its conditions. -/

namespace Sys2Proof.Machine

open Sys2Proof

/-- What an owner that found `s` may answer: OK or QUEUED with whatever it has done, or a refusal that leaves
`s` as it was. -/
inductive Answer.Clean (s : State) : Answer → Prop
  | refused (st : Status) (body : RespBody) : Clean s ⟨s, st, body⟩
  | ok (t : State) (body : RespBody) : Clean s ⟨t, .ok, body⟩
  | queued (t : State) (body : RespBody) : Clean s ⟨t, .queued, body⟩

theorem Answer.Clean.state_eq {s : State} {r : Answer} (c : r.Clean s) (ok : r.status ≠ .ok)
    (queued : r.status ≠ .queued) : r.state = s := by
  cases c with
  | refused => rfl
  | ok => exact absurd rfl ok
  | queued => exact absurd rfl queued

theorem Answer.Clean.ite {s : State} {p : Prop} [Decidable p] {a b : Answer} (ha : a.Clean s)
    (hb : b.Clean s) : (if p then a else b).Clean s := by
  split
  · exact ha
  · exact hb

/-- An owner whose refusals change nothing. -/
def RefusesCleanly {α : Type} (own : α → State → Answer) : Prop := ∀ a s, (own a s).Clean s

theorem ReadsOnly.refusesCleanly {α : Type} {own : α → State → Answer} (r : ReadsOnly own) :
    RefusesCleanly own := by
  intro a s
  have kept : (own a s).state = s := r a s
  generalize own a s = answer at kept ⊢
  subst kept
  exact .refused _ _

/-! ### What several requests share -/

theorem clean_withLink {s : State} {h : Nat} {argsOk : Bool} {k : Link → Answer}
    (hk : ∀ l, (k l).Clean s) : (s.withLink h argsOk k).Clean s :=
  .ite (.refused _ _) (.ite (.refused _ _) (hk _))

theorem clean_whileWaiting {s : State} {h : Nat} {k : Link → Answer} (hk : ∀ l, (k l).Clean s) :
    (s.whileWaiting h k).Clean s :=
  clean_withLink fun l => .ite (.refused _ _) (.ite (.refused _ _) (hk l))

theorem clean_withReferral {s : State} {h : Nat} {argsOk : Bool} {k : Link → Answer}
    (hk : ∀ l, (k l).Clean s) : (s.withReferral h argsOk k).Clean s :=
  .ite (.refused _ _) (.ite (.refused _ _) (hk _))

theorem clean_stagePack (s : State) (h : Nat) (argsOk : Bool) (f : Pack → Pack) :
    (s.stagePack h argsOk f).Clean s :=
  .ite (.refused _ _) (.ite (.refused _ _) (.ite (.refused _ _) (.ite (.refused _ _) (.ok _ _))))

/-! ### Chapter 1 -/

theorem clean_loadProfile : RefusesCleanly ownLoadProfile := by
  intro a s
  unfold ownLoadProfile
  split
  · exact .refused _ _
  · exact .ite (.refused _ _) (.ok _ _)

theorem clean_block : RefusesCleanly ownBlock := by
  refine fun k s => .ite (.refused _ _) (.ite (.ok _ _) ?_)
  split
  · exact .refused _ _
  · exact .ok _ _

theorem clean_unblock : RefusesCleanly ownUnblock :=
  fun _ _ => .ite (.refused _ _) (.ite (.ok _ _) (.ok _ _))

/-! ### Chapters 2 and 4 -/

theorem clean_setLabel : RefusesCleanly ownSetLabel := fun _ _ => clean_withLink fun _ =>
  .ite (.refused _ _) (.ite (.ok _ _) (.ite (.refused _ _) (.ok _ _)))

theorem clean_setPolicy : RefusesCleanly ownSetPolicy := fun _ _ => clean_withLink fun _ =>
  .ite (.refused _ _) (.ok _ _)

theorem clean_admit : RefusesCleanly ownAdmit := by
  refine fun a s => .ite (.refused _ _) (.ite (.refused _ _) ?_)
  split
  · exact .refused _ _
  · exact .ite (.refused _ _) (.queued _ _)

theorem clean_retune : RefusesCleanly ownRetune := fun _ _ => clean_withLink fun _ =>
  .ite (.refused _ _) (.ite (.refused _ _) (.queued _ _))

theorem clean_moveZones : RefusesCleanly ownMoveZones := fun _ _ => clean_withLink fun _ =>
  .ite (.refused _ _) (.ite (.refused _ _) (.queued _ _))

theorem clean_cancelRetune : RefusesCleanly ownCancelRetune :=
  fun _ _ => clean_whileWaiting fun _ => .ok _ _

theorem clean_tuneNow : RefusesCleanly ownTuneNow := fun _ _ => clean_whileWaiting fun _ => .ok _ _

/-- RETIRE is refused, accepted, or accepted unless a condition holds, by the state of the link (R83). -/
theorem clean_retireBy (h : Nat) (force : Bool) (s : State) (l : Link) :
    (retireBy h force s l).Clean s := by
  unfold retireBy
  cases l.state with
  | free | releasing => exact .refused _ _
  | checking | lost => exact .ok _ _
  | recheck | active | referred | retuneWait | settling | reverting =>
    exact .ite (.refused _ _) (.ok _ _)

theorem clean_retire : RefusesCleanly ownRetire :=
  fun _ _ => clean_withLink fun _ => clean_retireBy _ _ _ _

theorem clean_discard : RefusesCleanly ownDiscard := fun _ _ => clean_withLink fun _ =>
  .ite (.refused _ _) (.ok _ _)

theorem clean_answerReferral : RefusesCleanly ownAnswerReferral := fun _ _ => clean_withReferral fun _ =>
  .ite (.refused _ _) (.queued _ _)

theorem clean_declineReferral : RefusesCleanly ownDeclineReferral :=
  fun _ _ => clean_withReferral fun _ => .ok _ _

/-! ### Chapter 5 -/

theorem clean_seedSpare : RefusesCleanly ownSeedSpare := by
  refine fun a s => .ite (.refused _ _) (.ite (.refused _ _) ?_)
  split
  · exact .refused _ _
  · exact .ok _ _

theorem clean_dropSpare : RefusesCleanly ownDropSpare := by
  refine fun i s => .ite (.refused _ _) ?_
  split
  · exact .ok _ _
  · exact .ite (.refused _ _) (.ok _ _)

theorem clean_setPoolThreshold : RefusesCleanly ownSetPoolThreshold := fun _ _ => .ok _ _

/-! ### Chapter 6 -/

theorem clean_loadTallyMap : RefusesCleanly ownLoadTallyMap := by
  intro a s
  unfold ownLoadTallyMap
  split
  · exact .refused _ _
  · exact .ok _ _

theorem clean_clearSource : RefusesCleanly ownClearSource := by
  intro n s
  unfold ownClearSource
  split
  · exact .refused _ _
  · exact .ite (.ok _ _) (.refused _ _)

theorem clean_bind : RefusesCleanly ownBind := by
  intro a s
  unfold ownBind
  split
  · exact .refused _ _
  · refine clean_withLink fun l => .ite (.refused _ _) (.ite (.ok _ _) ?_)
    split
    · exact .refused _ _
    · exact .ite (.refused _ _) (.ok _ _)

theorem clean_unbind : RefusesCleanly ownUnbind := by
  intro a s
  unfold ownUnbind
  split
  · exact .refused _ _
  · split
    · exact .refused _ _
    · exact .ok _ _

theorem clean_holdLive : RefusesCleanly ownHoldLive := fun _ _ => clean_withLink fun _ =>
  .ite (.refused _ _) (.ite (.ok _ _) (.ok _ _))

theorem clean_suppress : RefusesCleanly ownSuppress := fun _ _ => clean_withLink fun _ =>
  .ite (.refused _ _) (.ite (.refused _ _) (.ok _ _))

/-! ### Chapter 7 -/

theorem clean_defineKey : RefusesCleanly ownDefineKey := by
  intro a s
  unfold ownDefineKey
  split
  · exact .refused _ _
  · refine .ite (.refused _ _) ?_
    split
    · exact .refused _ _
    · split
      · exact .refused _ _
      · exact .ok _ _

theorem clean_deleteKey : RefusesCleanly ownDeleteKey := by
  refine fun k s => .ite (.refused _ _) ?_
  split
  · exact .ok _ _
  · exact .ite (.refused _ _) (.ok _ _)

theorem clean_defineDest : RefusesCleanly ownDefineDest := by
  intro a s
  unfold ownDefineDest
  split
  · exact .refused _ _
  · split
    · exact .refused _ _
    · exact .ite (.refused _ _) (.ok _ _)

theorem clean_setTarget : RefusesCleanly ownSetTarget := by
  refine fun a s => .ite (.refused _ _) ?_
  split
  · exact .refused _ _
  · exact .ok _ _

theorem clean_setWatch : RefusesCleanly ownSetWatch := by
  refine fun a s => .ite (.refused _ _) ?_
  split
  · exact .refused _ _
  · exact .ok _ _

theorem clean_deleteDest : RefusesCleanly ownDeleteDest := by
  refine fun id s => .ite (.refused _ _) ?_
  split
  · exact .ok _ _
  · exact .ite (.refused _ _) (.ok _ _)

theorem clean_setLast : RefusesCleanly ownSetLast := by
  refine fun k s => .ite (.refused _ _) ?_
  split
  · exact .refused _ _
  · exact .ok _ _

theorem clean_clearTalk : RefusesCleanly ownClearTalk := fun _ _ => .ok _ _

/-! ### Chapters 8 and 10 -/

theorem clean_stageDown : RefusesCleanly ownStageDown :=
  fun _ _ => .ite (.refused _ _) (.ite (.refused _ _) (.ok _ _))

theorem clean_stageListen : RefusesCleanly ownStageListen := fun _ _ => clean_stagePack _ _ _ _

theorem clean_stageUp : RefusesCleanly ownStageUp := fun _ _ => clean_stagePack _ _ _ _

theorem clean_commit : RefusesCleanly ownCommit := by
  refine fun _ s => .ite (.refused _ _) ?_
  split
  · exact .refused _ _
  · exact .ok _ _

theorem clean_discardPlan : RefusesCleanly ownDiscardPlan := fun _ _ => .ok _ _

theorem clean_readSummary : RefusesCleanly ownReadSummary := fun _ _ => .ok _ _

/-! ### The statement -/

/-- A command is taken under code `n` by an owner whose refusals change nothing. -/
def TakenCleanly (c : Instr) (n : Nat) : Prop :=
  ∃ (α : Type) (b : ReqBody α) (always : Bool) (own : α → State → Answer), RefusesCleanly own
    ∧ ∀ s, exec c s = .next (s.take n always b own)

/-- A request that is no lookup is of an unknown code, or goes to an owner whose refusals change nothing. -/
theorem writer_refusesCleanly {c : Instr} {n : Nat} {ok : Bool} (hl : c.lookup = false)
    (h : c.request = some (n, ok)) :
    c = .unrecognisedRequest n ∨ TakenCleanly c n := by
  cases c
  all_goals cases hl
  all_goals cases h
  case unrecognisedRequest => exact .inl rfl
  all_goals right
  case loadProfile b => exact ⟨_, b, _, _, clean_loadProfile, fun _ => rfl⟩
  case block b => exact ⟨_, b, _, _, clean_block, fun _ => rfl⟩
  case unblock b => exact ⟨_, b, _, _, clean_unblock, fun _ => rfl⟩
  case setLabel b => exact ⟨_, b, _, _, clean_setLabel, fun _ => rfl⟩
  case setPolicy b => exact ⟨_, b, _, _, clean_setPolicy, fun _ => rfl⟩
  case admitLink b => exact ⟨_, b, _, _, clean_admit, fun _ => rfl⟩
  case retune b => exact ⟨_, b, _, _, clean_retune, fun _ => rfl⟩
  case moveZones b => exact ⟨_, b, _, _, clean_moveZones, fun _ => rfl⟩
  case cancelRetune b => exact ⟨_, b, _, _, clean_cancelRetune, fun _ => rfl⟩
  case tuneNow b => exact ⟨_, b, _, _, clean_tuneNow, fun _ => rfl⟩
  case retire b => exact ⟨_, b, _, _, clean_retire, fun _ => rfl⟩
  case discard b => exact ⟨_, b, _, _, clean_discard, fun _ => rfl⟩
  case seedSpare b => exact ⟨_, b, _, _, clean_seedSpare, fun _ => rfl⟩
  case dropSpare b => exact ⟨_, b, _, _, clean_dropSpare, fun _ => rfl⟩
  case setPoolThreshold b => exact ⟨_, b, _, _, clean_setPoolThreshold, fun _ => rfl⟩
  case answerReferral b => exact ⟨_, b, _, _, clean_answerReferral, fun _ => rfl⟩
  case declineReferral b => exact ⟨_, b, _, _, clean_declineReferral, fun _ => rfl⟩
  case loadTallyMap b => exact ⟨_, b, _, _, clean_loadTallyMap, fun _ => rfl⟩
  case clearSource b => exact ⟨_, b, _, _, clean_clearSource, fun _ => rfl⟩
  case bind b => exact ⟨_, b, _, _, clean_bind, fun _ => rfl⟩
  case unbind b => exact ⟨_, b, _, _, clean_unbind, fun _ => rfl⟩
  case holdLive b => exact ⟨_, b, _, _, clean_holdLive, fun _ => rfl⟩
  case suppress b => exact ⟨_, b, _, _, clean_suppress, fun _ => rfl⟩
  case defineKey b => exact ⟨_, b, _, _, clean_defineKey, fun _ => rfl⟩
  case deleteKey b => exact ⟨_, b, _, _, clean_deleteKey, fun _ => rfl⟩
  case defineDest b => exact ⟨_, b, _, _, clean_defineDest, fun _ => rfl⟩
  case setTarget b => exact ⟨_, b, _, _, clean_setTarget, fun _ => rfl⟩
  case setWatch b => exact ⟨_, b, _, _, clean_setWatch, fun _ => rfl⟩
  case deleteDest b => exact ⟨_, b, _, _, clean_deleteDest, fun _ => rfl⟩
  case setLast b => exact ⟨_, b, _, _, clean_setLast, fun _ => rfl⟩
  case clearTalk b => exact ⟨_, b, _, _, clean_clearTalk, fun _ => rfl⟩
  case stageDown b => exact ⟨_, b, _, _, clean_stageDown, fun _ => rfl⟩
  case stageListen b => exact ⟨_, b, _, _, clean_stageListen, fun _ => rfl⟩
  case stageUp b => exact ⟨_, b, _, _, clean_stageUp, fun _ => rfl⟩
  case commit b => exact ⟨_, b, _, _, clean_commit, fun _ => rfl⟩
  case discardPlan b => exact ⟨_, b, _, _, clean_discardPlan, fun _ => rfl⟩
  case readSummary b => exact ⟨_, b, _, _, clean_readSummary, fun _ => rfl⟩

/-- Every request of a known code goes to an owner whose refusals change nothing. -/
theorem request_refusesCleanly {c : Instr} {n : Nat} {ok : Bool} (h : c.request = some (n, ok)) :
    c = .unrecognisedRequest n ∨ TakenCleanly c n := by
  cases hl : c.lookup with
  | false => exact writer_refusesCleanly hl h
  | true =>
    obtain ⟨α, b, own, reads, e⟩ := lookup_taken hl h
    exact .inr ⟨α, b, false, own, reads.refusesCleanly, e⟩

/-- What becomes of a taken request: the state it found, answered; or its owner's answer (R181). -/
theorem take_cases {α : Type} {s : State} (hf : s.free) (code : Nat) (always : Bool) (b : ReqBody α)
    (own : α → State → Answer) :
    (∃ st body, s.take code always b own = s.respond code st body)
      ∨ ∃ a, s.take code always b own
        = (own a s).state.respond code (own a s).status (own a s).body := by
  simp only [State.take, transaction_listening hf.1, hf.2]
  split
  · contradiction
  · split
    · exact .inl ⟨_, _, rfl⟩
    · cases b with
      | badLength => exact .inl ⟨_, _, rfl⟩
      | args a => exact .inr ⟨a, rfl⟩

theorem respond_owed_eq_iff {s : State} {n : Nat} {st st' : Status} {body body' : RespBody} :
    (s.respond n st body).port.owed = some ⟨n, st', body'⟩ ↔ st = st' ∧ body = body' := by
  simp

/-- Settles O9: a request is answered before any owner sees it, or by an owner whose refusals are clean. -/
theorem refusalChangesNothing : Obligations.RefusalChangesNothing := by
  intro c n ok s t st body hreq hf hexec howed hok hqueued
  rcases request_refusesCleanly hreq with rfl | ⟨α, b, always, own, clean, htake⟩
  · have answered : exec (.unrecognisedRequest n) s = .next (s.respond n .unknownRequest .empty) :=
      congrArg Host.Outcome.next (by simp [transaction_listening hf.1, hf.2])
    obtain rfl := Host.Outcome.next.inj (answered.symm.trans hexec)
    obtain ⟨rfl, rfl⟩ := respond_owed_eq_iff.mp howed
    rfl
  · obtain rfl := Host.Outcome.next.inj ((htake s).symm.trans hexec)
    rcases take_cases hf n always b own with ⟨st', body', e⟩ | ⟨a, e⟩
    all_goals
      rw [e] at howed ⊢
      obtain ⟨rfl, rfl⟩ := respond_owed_eq_iff.mp howed
    · rfl
    · rw [(clean a s).state_eq hok hqueued]

end Sys2Proof.Machine
end

section
/-! What the receivers discard, and CARRIER LOSS and CARRIER BACK (R27, R142, R174, R175, R177, R193). -/

namespace Sys2Proof.Machine

open Sys2Proof

/-! ### Reports on RRX (R174, R175) -/

/-- A message whose layout is not its type's. -/
def LineBody.malformed {α : Type} : LineBody α → Bool
  | .fields _ => false
  | .badLength => true
  | .badSum => true

theorem report_malformed {α : Type} {s : State} (hr : s.pins.inReset = false) {b : LineBody α}
    (hb : LineBody.malformed b = true) (handle : α → Nat) (inRange : α → Bool)
    (k : α → State → State) : s.report b handle inRange k = s.rrxDone := by
  rw [State.report, event_live hr]
  cases b with
  | fields => cases hb
  | badLength | badSum => exact ite_self _

/-- A report of a handle out of range, a field out of range or a FREE record. -/
theorem report_discarded {α : Type} {s : State} (hr : s.pins.inReset = false) {a : α} {handle : α → Nat}
    {inRange : α → Bool} (h : 159 < handle a ∨ inRange a = false ∨ (s.link (handle a)).state = .free)
    (k : α → State → State) : s.report (.fields a) handle inRange k = s.rrxDone := by
  rw [State.report, event_live hr]
  rcases h with out | bad | free
  · simp [handleOk, Nat.not_le.mpr out]
  · simp [bad]
  · simp [free]

/-- A report that its owner leaves without effect. -/
theorem report_without_effect {α : Type} {s : State} (hr : s.pins.inReset = false) {a : α}
    {k : α → State → State} (hk : k a s.rrxDone = s.rrxDone) (handle : α → Nat) (inRange : α → Bool) :
    s.report (.fields a) handle inRange k = s.rrxDone := by
  simp [State.report, event_live hr, hk]

theorem Plan.hasUp_eq_false {p : Plan} {h : Nat} (e : ∀ e, e ∈ p.packs → e.handle = h → e.up = none) :
    p.hasUp h = false := by
  simpa [Plan.hasUp, List.any_eq_false] using e

/-- No key is driven by an origin that no defined key has. -/
theorem Talk.findKey_eq_none {t : Talk} {o : Origin} (h : ∀ k x, t.key k = some x → x.origin ≠ o) :
    (t.findKey fun x => x.origin == o) = none := by
  rw [Talk.findKey, t.keys.entries_eq none, List.find?_map, Option.map_map, Option.map_eq_none_iff,
    List.find?_eq_none]
  intro k _
  cases e : t.keys.get k none with
  | none => simp [e]
  | some x => simpa [e] using h k x e

theorem keyEvent_undefined {s : State} {o : Origin} (h : ∀ k x, s.talk.key k = some x → x.origin ≠ o)
    (press : Bool) : s.keyEvent o press = s := by
  rw [State.keyEvent, Talk.findKey_eq_none h]

/-- The KEY reports that are discarded, whatever the record (R142, R175). -/
theorem exec_key_discarded {s : State} (hr : s.pins.inReset = false) {h n v : Nat}
    (d : 3 < n ∨ 1 < v ∨ (s.link h).kind ≠ some .beltpack
      ∨ (∀ e, e ∈ s.plans.active.packs → e.handle = h → e.up = none)
      ∨ (∀ k x, s.talk.key k = some x → x.origin ≠ .pack h n)) :
    exec (.key (.fields ⟨h, n, v⟩)) s = .next s.rrxDone := by
  refine congrArg Host.Outcome.next ?_
  rcases d with key | direction | kind | up | origin
  · refine report_discarded hr (.inr (.inl ?_)) _
    simp [Nat.not_le.mpr key]
  · refine report_discarded hr (.inr (.inl ?_)) _
    simp [Nat.not_le.mpr direction]
  all_goals refine report_without_effect hr ?_ _ _
  · have refused : s.rrxDone.keyAccepted h = false :=
      Bool.and_eq_false_iff.mpr (.inl (beq_eq_false_iff_ne.mpr kind))
    simp [refused]
  · have refused : s.rrxDone.keyAccepted h = false :=
      Bool.and_eq_false_iff.mpr (.inr (Plan.hasUp_eq_false up))
    simp [refused]
  · split
    · exact keyEvent_undefined (s := s.rrxDone) origin _
    · rfl

/-- Reports with a broken layout, of whatever type (R174). -/
theorem exec_report_malformed {s : State} (hr : s.pins.inReset = false) (c : Instr)
    (m : c ∈ [Instr.tuned .badLength, .tuned .badSum, .muted .badLength, .muted .badSum,
      .interference .badLength, .interference .badSum, .carrierLoss .badLength, .carrierLoss .badSum,
      .carrierBack .badLength, .carrierBack .badSum, .key .badLength, .key .badSum]) :
    exec c s = .next s.rrxDone := by
  simp only [List.mem_cons, List.not_mem_nil, or_false] at m
  rcases m with rfl | rfl | rfl | rfl | rfl | rfl | rfl | rfl | rfl | rfl | rfl | rfl
  all_goals exact congrArg Host.Outcome.next (report_malformed hr rfl _ _ _)

/-- Reports for a handle out of range or a FREE record, of whatever type (R174). -/
theorem exec_report_free {s : State} (hr : s.pins.inReset = false) {h : Nat} (n v : Nat)
    (hf : 159 < h ∨ (s.link h).state = .free) (c : Instr)
    (m : c ∈ [Instr.tuned (.fields ⟨h, n⟩), .muted (.fields h), .interference (.fields ⟨h, n⟩),
      .carrierLoss (.fields h), .carrierBack (.fields h), .key (.fields ⟨h, n, v⟩)]) :
    exec c s = .next s.rrxDone := by
  simp only [List.mem_cons, List.not_mem_nil, or_false] at m
  rcases m with rfl | rfl | rfl | rfl | rfl | rfl
  all_goals exact congrArg Host.Outcome.next (report_discarded hr (hf.imp_right .inr) _)

theorem exec_tuned_step_out {s : State} (hr : s.pins.inReset = false) (h : Nat) {n : Nat}
    (hn : 108000 < n) : exec (.tuned (.fields ⟨h, n⟩)) s = .next s.rrxDone :=
  congrArg Host.Outcome.next
    (report_discarded hr (.inr (.inl (by simpa [stepOk] using hn))) _)

/-! ### Panel events on MRX (R177) -/

theorem panelEvent_malformed {s : State} (hr : s.pins.inReset = false) {b : LineBody PanelArgs}
    (hb : LineBody.malformed b = true) (press : Bool) : s.panelEvent b press = s.mrxDone := by
  rw [State.panelEvent, event_live hr]
  cases b with
  | fields => cases hb
  | badLength | badSum => exact ite_self _

theorem panelEvent_discarded {s : State} (hr : s.pins.inReset = false) {p b : Nat}
    (h : 63 < p ∨ 7 < b ∨ ∀ k x, s.talk.key k = some x → x.origin ≠ .panel p b) (press : Bool) :
    s.panelEvent (.fields ⟨p, b⟩) press = s.mrxDone := by
  rw [State.panelEvent, event_live hr]
  split
  · rfl
  · cases ok : panelOk p b with
    | false => simp [ok]
    | true =>
      have origin := (or_assoc.mpr h).resolve_left (by simp [panelOk] at ok; omega)
      simpa [ok] using keyEvent_undefined (s := s.mrxDone) origin press

/-! ### Tally frames (R114, R193) -/

/-- The receiver of one tally line emptied. -/
def TallyLines.emptied (l : TallyLines) : Source → TallyLines
  | .main => { l with line0 := [] }
  | .sub1 => { l with line1 := [] }
  | .sub2 => { l with line2 := [] }

theorem lineDone_eq (s : State) (x : Source) : s.lineDone x = s.setLines (s.lines.emptied x) := by
  cases x <;> rfl

theorem tallyFrame_discarded {s : State} {x : Source} {a : FrameArgs}
    (h : s.tally.present x = false ∨ 48 < a.program.length ∨ 48 < a.preview.length) :
    s.tallyFrame x (.fields a) = s := by
  rw [State.tallyFrame]
  rcases h with absent | long
  · simp [absent]
  · rw [if_pos long]
    exact ite_self _

/-- The frames that are discarded, and what they leave of the line they came on. -/
theorem exec_tallyFrame_discarded {s : State} (hr : s.pins.inReset = false) (x : Source) (a : FrameArgs)
    (c : Instr) (m : c = Instr.tallyFrame x .badLength ∨ c = .tallyFrame x .badSum
      ∨ (s.tally.present x = false ∨ 48 < a.program.length ∨ 48 < a.preview.length)
        ∧ c = .tallyFrame x (.fields a)) :
    exec c s = .next (s.setLines (s.lines.emptied x)) := by
  rw [← lineDone_eq]
  rcases m with rfl | rfl | ⟨h, rfl⟩
  all_goals refine congrArg Host.Outcome.next ((event_live hr _).trans ?_)
  · rfl
  · rfl
  · refine tallyFrame_discarded ?_
    rwa [lineDone_eq]

/-! ### The statement -/

/-- Settles O53: each receiver's acceptance, condition by condition, and the two carrier reports. -/
theorem receiversAndCarrierReports : Obligations.ReceiversAndCarrierReports := by
  refine ⟨fun s hr h n v => ⟨exec_report_malformed hr, exec_report_free hr n v, exec_tuned_step_out hr h,
    exec_key_discarded hr⟩, fun s hr => ⟨?_, fun n => ?_, ?_, fun n => ?_, fun p b c m => ?_, fun x => ?_⟩,
    fun h s live hh hf => ⟨?_, ?_⟩⟩
  · exact congrArg Host.Outcome.next (event_live hr _)
  · exact congrArg Host.Outcome.next (event_live hr _)
  · exact congrArg Host.Outcome.next (event_live hr _)
  · exact congrArg Host.Outcome.next (event_live hr _)
  · simp only [List.mem_cons, List.not_mem_nil, or_false] at m
    rcases m with (rfl | rfl | rfl | rfl) | ⟨discarded, rfl | rfl⟩
    iterate 4 exact congrArg Host.Outcome.next (panelEvent_malformed hr rfl _)
    all_goals exact congrArg Host.Outcome.next (panelEvent_discarded hr discarded _)
  · refine ⟨s.lines.emptied x, ?_, fun n => ?_, exec_tallyFrame_discarded hr x, ?_, ?_, ?_⟩
    · exact congrArg Host.Outcome.next ((event_live hr _).trans (lineDone_eq s x))
    · exact congrArg Host.Outcome.next ((event_live hr _).trans (lineDone_eq s x))
    all_goals
      rintro rfl
      rfl
  all_goals exact congrArg Host.Outcome.next (report_live live ((handleOk_iff h).mpr hh) rfl hf _)

end Sys2Proof.Machine
end

section
/-! The standing of the destinations after it is recomputed, and the delivery of on-air changes (R74, R124,
R139, R140, R147). -/

namespace Sys2Proof.Machine

open Sys2Proof

/-! ### The standing of the destinations (R139, R140, R147) -/

/-- A destination without its two lists, which are all that grants and waits write of it. -/
def Dest.settings (d : Dest) : Dest := { d with talking := [], waiting := [] }

/-- A destination with the standing that `s` gives it. -/
def State.stood (s : State) (id : Nat) (d : Dest) : Dest :=
  { d with routed := s.routed id d, restricted := s.restricted d }

theorem Talk.wait_settings (t : Talk) (id k i : Nat) :
    ((t.wait id k).dest i).map Dest.settings = (t.dest i).map Dest.settings := by
  cases e : t.dest id with
  | none => simp only [Talk.wait, e]
  | some d =>
    obtain ⟨-, dest, within⟩ := t.wait_spec e k
    by_cases hi : i = id
    · rw [hi, dest, e]
      rfl
    · rw [within.dest i hi]

theorem Talk.waits_settings (t : Talk) (id i : Nat) (ks : List Nat) :
    ((ks.foldl (fun t k => t.wait id k) t).dest i).map Dest.settings
      = (t.dest i).map Dest.settings := by
  induction ks generalizing t with
  | nil => rfl
  | cons k ks ih => exact (ih _).trans (t.wait_settings id k i)

theorem Talk.refill_settings (t : Talk) (now id i : Nat) :
    ((t.refill now id).dest i).map Dest.settings = (t.dest i).map Dest.settings := by
  cases e : t.dest id with
  | none => simp only [Talk.refill, e]
  | some d =>
    obtain ⟨others, -, granted, waiting, dest, -⟩ := t.refill_spec e now
    by_cases hi : i = id
    · rw [hi, dest, e]
      rfl
    · rw [others i hi]

/-- A destination that takes a standing keeps its other settings, and every other destination all of them. -/
theorem Talk.restand_settings {t : Talk} {id : Nat} {d : Dest} (h : t.dest id = some d) (now : Nat)
    (routed restricted : Bool) (i : Nat) :
    ((t.restand now id routed restricted).dest i).map Dest.settings
      = if i = id then some { d.settings with routed := routed, restricted := restricted }
        else (t.dest i).map Dest.settings := by
  simp only [Talk.restand, h]
  split
  · rename_i same
    split
    · rename_i hi
      rw [hi, h, ← same.1, ← same.2]
      rfl
    · rfl
  · rw [Talk.refill_settings, Talk.waits_settings]
    split
    · rename_i hi
      rw [hi, Talk.dest_setDest_same _ _ (Talk.dest_lt h)]
      rfl
    · rename_i hi
      rw [Talk.dest_setDest_other _ _ hi]

/-- One destination of `t` takes the standing that `s` gives it. -/
def State.restandIn (s : State) (t : Talk) (id : Nat) : Talk :=
  match t.dest id with
  | none => t
  | some d => t.restand s.now id (s.routed id d) (s.restricted d)

theorem State.restandAll_eq (s : State) :
    s.restandAll = s.setTalk ((List.range 32).foldl s.restandIn s.talk) := rfl

theorem State.restandIn_settings (s : State) (t : Talk) (id i : Nat) :
    ((s.restandIn t id).dest i).map Dest.settings
      = if i = id then (t.dest i).map fun d => s.stood id d.settings
        else (t.dest i).map Dest.settings := by
  unfold State.restandIn
  split
  · rename_i e
    split
    · rename_i hi
      rw [hi, e]
      rfl
    · rfl
  · rename_i d e
    rw [Talk.restand_settings e]
    split
    · rename_i hi
      rw [hi, e]
      rfl
    · rfl

theorem State.restandIn_foldl_settings (s : State) (t : Talk) (ids : List Nat) (i : Nat) :
    ((ids.foldl s.restandIn t).dest i).map Dest.settings
      = if i ∈ ids then (t.dest i).map fun d => s.stood i d.settings
        else (t.dest i).map Dest.settings := by
  induction ids generalizing t with
  | nil => rfl
  | cons id ids ih =>
    have again : ∀ o : Option Dest, o.map (fun d => s.stood i d.settings)
        = (o.map Dest.settings).map fun d => s.stood i d := by
      intro o
      cases o <;> rfl
    rw [List.foldl_cons, ih, again, State.restandIn_settings]
    by_cases hi : i = id
    · subst hi
      rw [if_pos rfl, if_pos List.mem_cons_self]
      split
      · cases t.dest i <;> rfl
      · rfl
    · rw [if_neg hi, ← again]
      simp only [List.mem_cons, hi, false_or]

theorem State.routed_setTalk (s : State) (x : Talk) (id : Nat) (d : Dest) :
    (s.setTalk x).routed id d = s.routed id d := rfl

theorem State.restricted_setTalk (s : State) (x : Talk) (d : Dest) :
    (s.setTalk x).restricted d = s.restricted d := rfl

/-- Once recomputed, every destination stands as computed. -/
theorem standing_restandAll (s : State) : s.restandAll.standing := by
  intro id d e
  have settings := s.restandIn_foldl_settings s.talk (List.range 32) id
  rw [State.restandAll_eq] at e ⊢
  rw [State.setTalk_talk] at e
  rw [State.routed_setTalk, State.restricted_setTalk]
  rw [e, if_pos (List.mem_range.mpr (Talk.dest_lt e))] at settings
  cases old : s.talk.dest id with
  | none => simp [old] at settings
  | some d' =>
    rw [old, Option.map_some, Option.map_some, Option.some.injEq] at settings
    have routed : s.routed id d.settings = d.settings.routed := by rw [settings]; rfl
    have restricted : s.restricted d.settings = d.settings.restricted := by rw [settings]; rfl
    exact ⟨routed.symm, restricted.symm⟩

theorem onAir_congr {s t : State} {h : Nat} (hl : (t.link h).lasting = (s.link h).lasting)
    (ht : t.tally = s.tally) : t.onAir h = s.onAir h := by
  show (t.link h).lasting.onAir t.tally.protectIso = (s.link h).lasting.onAir s.tally.protectIso
  rw [hl, ht]

/-- The standing computed for a destination depends on nothing that a transmitter's start writes. -/
theorem standing_congr {s t : State} (hl : ∀ h, (t.link h).lasting = (s.link h).lasting)
    (ht : t.tally = s.tally) (hp : t.plans = s.plans) (hk : t.talk = s.talk) (st : s.standing) :
    t.standing := by
  intro id d e
  obtain ⟨routed, restricted⟩ := st id d (hk ▸ e)
  have eligible : ∀ o, t.eligibleLink o = s.eligibleLink o := by
    intro o
    cases o with
    | none => rfl
    | some h => exact congrArg LinkState.planEligible (congrArg Link.state (hl h) :)
  have sameRouted : t.routed id d = s.routed id d := by
    unfold State.routed
    rw [eligible, hp]
  have sameRestricted : t.restricted d = s.restricted d := by
    unfold State.restricted
    cases d.watch with
    | none => rfl
    | some w => exact congrArg (· && d.threshold.isSome) (onAir_congr (hl w) ht)
  exact ⟨routed.trans sameRouted.symm, restricted.trans sameRestricted.symm⟩

/-! ### What an on-air change does to a record (R74) -/

/-- A record without the three fields that an on-air change may write. -/
def Link.steady (l : Link) : Link := { l with state := .free, order := none, timer := none }

theorem Link.onAir_steady (l : Link) (protectIso : Bool) :
    l.lasting.steady.onAir protectIso = l.onAir protectIso := rfl

theorem Link.onAirChange_steady (l : Link) (on : Bool) : (l.onAirChange on).steady = l.steady := by
  unfold Link.onAirChange
  split
  · rfl
  · split <;> rfl
  · rfl

theorem Link.onAirChange_release {l : Link} (h : l.state = .retuneWait) :
    l.onAirChange false = { l with state := .settling, order := l.target.map .tune, timer := none } := by
  simp only [Link.onAirChange, h]

theorem Link.onAirChange_withdraw {l : Link} {f : Nat} (h : l.state = .settling)
    (hc : l.carrier.isSome = true) (hf : l.forced = false) (ht : l.target = some f)
    (ho : l.order = some (.tune f)) :
    l.onAirChange true = { l with state := .retuneWait, order := none, timer := none } := by
  simp [Link.onAirChange, h, hc, hf, ht, ho]

/-- The records that an on-air change leaves as they are. -/
def Link.unmovedBy (l : Link) (on : Bool) : Prop :=
  l.state ≠ .retuneWait ∧ l.state ≠ .settling
    ∨ l.state = .retuneWait ∧ on = true
    ∨ l.state = .settling ∧ (on = false ∨ l.carrier = none ∨ l.forced = true ∨ l.order = none)

theorem Link.onAirChange_unmoved {l : Link} {on : Bool} (h : l.unmovedBy on) : l.onAirChange on = l := by
  rcases h with ⟨notWaiting, notSettling⟩ | ⟨waiting, rfl⟩ | ⟨settling, off | carrier | forced | order⟩
  · unfold Link.onAirChange
    split
    · exact absurd ‹_› notWaiting
    · exact absurd ‹_› notSettling
    · rfl
  · simp only [Link.onAirChange, waiting]
  all_goals
    unfold Link.onAirChange
    rw [settling]
  · rw [off]
  all_goals cases on
  all_goals simp [*]

/-! ### Starts of the Radio Port at a record with no order (R171) -/

theorem serve_no_order {s : State} {h : Nat} (ho : (s.link h).order = none) (g : Nat) :
    ((s.serve g).link h).order = none ∧ ((s.serve g).link h).timer = (s.link h).timer := by
  by_cases hg : h = g
  · subst hg
    simp only [State.serve, ho, State.beginLamp, State.link_setRadio, State.link_setLink]
    split
    · exact ⟨rfl, rfl⟩
    · exact ⟨ho, rfl⟩
  · have kept : (s.serve g).link h = s.link h := by
      unfold State.serve
      split
      all_goals exact State.link_setLink_other _ _ hg
    rw [kept]
    exact ⟨ho, rfl⟩

theorem radioKick_no_order {s : State} {h : Nat} (ho : (s.link h).order = none) :
    (s.radioKick.link h).order = none ∧ (s.radioKick.link h).timer = (s.link h).timer := by
  unfold State.radioKick
  split
  · split
    · exact ⟨ho, rfl⟩
    · split
      · exact serve_no_order ho _
      · exact ⟨ho, rfl⟩
  · exact ⟨ho, rfl⟩

/-- The end of an event sends no order that is not there, and starts no timer for it. -/
theorem finish_no_order (s0 : State) {s : State} (q : s.quiet) {h : Nat}
    (ho : (s.link h).order = none) :
    ((State.finish s0 s).link h).order = none
      ∧ ((State.finish s0 s).link h).timer = (s.link h).timer := by
  obtain ⟨m, e, -⟩ := matrixKick_eq (State.oweRoutes s0 s.engineKick.radioKick)
  have kept : s.engineKick.link h = s.link h := by
    rw [State.link, (sameButSweep_engineKick q).links]
    rfl
  have kicked := radioKick_no_order (s := s.engineKick) (h := h) (kept.symm ▸ ho)
  rw [kept] at kicked
  rw [State.finish, e]
  exact kicked

/-! ### The delivery of on-air changes (R124) -/

section delivery

variable {s u : State}

theorem link_deliverOnAir (s u : State) (h : Nat) :
    (State.deliverOnAir s u).link h =
      if s.onAir h = u.onAir h then u.link h else (u.link h).onAirChange (u.onAir h) := by
  show Tab.get (Tab.mapIdx _ _) h _ = _
  rw [Tab.get_mapIdx _ _ _ Link.free]
  split
  · rfl
  · rename_i out
    rw [u.link_out (Nat.le_of_not_lt out)]
    exact (ite_self _).symm

theorem deliverOnAir_steady (s u : State) (h : Nat) :
    ((State.deliverOnAir s u).link h).steady = (u.link h).steady := by
  rw [link_deliverOnAir]
  split
  · rfl
  · exact Link.onAirChange_steady _ _

theorem quiet_deliverOnAir (q : u.quiet) : (State.deliverOnAir s u).quiet := quiet_congr rfl rfl q

/-- All that follows a recomputation of the links leaves but for the links and the talk tables. -/
theorem sameButEnd_afterTally (s : State) (q : u.quiet) :
    SameButEnd (State.deliverOnAir s u) (State.afterTally s u) :=
  sameButEnd_finish s (quiet_deliverOnAir q)

theorem afterTally_steady (s : State) (q : u.quiet) (h : Nat) :
    ((State.afterTally s u).link h).lasting.steady = (u.link h).lasting.steady :=
  calc ((State.afterTally s u).link h).lasting.steady
      = ((State.deliverOnAir s u).link h).lasting.steady :=
        congrArg Link.steady ((sameButEnd_afterTally s q).lasting h)
    _ = (u.link h).lasting.steady := congrArg Link.lasting (deliverOnAir_steady s u h)

theorem afterTally_onAir (s : State) (q : u.quiet) (h : Nat) :
    (State.afterTally s u).onAir h = u.onAir h := by
  have tally : (State.afterTally s u).tally = u.tally := (sameButEnd_afterTally s q).outside.tally
  rw [State.onAir, State.onAir, tally, ← Link.onAir_steady, afterTally_steady s q, Link.onAir_steady]

theorem afterTally_state (s : State) (q : u.quiet) (h : Nat) :
    ((State.afterTally s u).link h).state = ((State.deliverOnAir s u).link h).state :=
  (congrArg Link.state ((sameButEnd_afterTally s q).lasting h) :)

/-- Where no message may begin, the records stand as the on-air changes leave them. -/
theorem afterTally_held (s : State) (q : u.quiet) (r : u.radioHeld) (h : Nat) :
    (State.afterTally s u).link h = (State.deliverOnAir s u).link h :=
  congrArg (Tab.get · h Link.free)
    (links_finish s (quiet_deliverOnAir (s := s) q) (s := State.deliverOnAir s u) r)

theorem standing_afterTally (s : State) (q : u.quiet) : (State.afterTally s u).standing := by
  have kept := sameButEnd_afterTally s q
  exact standing_congr kept.lasting kept.outside.tally kept.plans kept.talk (standing_restandAll _)

/-- A record that the recomputation has not touched keeps all but what a transmitter's start writes. -/
theorem afterTally_untouched (q : u.quiet) {h : Nat} (hl : u.link h = s.link h)
    (ha : u.onAir h = s.onAir h) : ((State.afterTally s u).link h).lasting = (s.link h).lasting := by
  rw [(sameButEnd_afterTally s q).lasting h, link_deliverOnAir, if_pos ha.symm, hl]

end delivery

/-! ### Recomputed records (R119, R128) -/

/-- A record without the fields that the requests of the Tally Resolver write. -/
def Link.uncontrolled (l : Link) : Link := { l with bindings := [], suppress := false, holdLive := false }

/-- A record without those fields, and without what a recomputation writes. -/
def Link.tuning (l : Link) : Link :=
  { l.uncontrolled with tally := .none, stale := false, lampOwed := false }

/-- What decides what an on-air change does to a record, and what it writes. -/
theorem Link.same_of_tuning {l m : Link} (e : l.tuning = m.tuning) :
    l.state = m.state ∧ l.order = m.order ∧ l.timer = m.timer ∧ l.carrier = m.carrier
      ∧ l.target = m.target ∧ l.forced = m.forced :=
  ⟨(congrArg Link.state e :), (congrArg Link.order e :), (congrArg Link.timer e :),
    (congrArg Link.carrier e :), (congrArg Link.target e :), (congrArg Link.forced e :)⟩

theorem Link.oweLamp_eq (l : Link) :
    l.oweLamp
      = { l with lampOwed := l.lampOwed || (l.kind == some .camera && l.lamp != l.lastLamp) } := by
  unfold Link.oweLamp
  split
  · rename_i owed
    simp [owed.1, owed.2]
  · rename_i c
    have : (l.kind == some .camera && l.lamp != l.lastLamp) = false := by
      rw [Bool.eq_false_iff]
      intro owed
      exact c (by simpa using owed)
    rw [this, Bool.or_false]

theorem Link.resolved_bindings (t : TallyBlock) (l : Link) : (l.resolved t).bindings = l.bindings := by
  rw [Link.resolved, Link.oweLamp_eq]

theorem Link.resolved_tally (t : TallyBlock) (l : Link) :
    (l.resolved t).tally = t.resolve l.bindings := by
  rw [Link.resolved, Link.oweLamp_eq]

theorem Link.resolved_stale (t : TallyBlock) (l : Link) :
    (l.resolved t).stale = t.staleOf l.bindings := by
  rw [Link.resolved, Link.oweLamp_eq]

theorem Link.resolved_apart (t : TallyBlock) (l : Link) :
    (l.resolved t).apartFromTally = l.apartFromTally := by
  rw [Link.resolved, Link.oweLamp_eq]
  rfl

theorem Link.resolved_tuning (t : TallyBlock) (l : Link) : (l.resolved t).tuning = l.tuning := by
  rw [Link.resolved, Link.oweLamp_eq]
  rfl

theorem Link.resolved_lamp (t : TallyBlock) (l : Link) :
    (l.resolved t).lampOwed
        = (l.lampOwed || (l.kind == some .camera && (l.resolved t).lamp != l.lastLamp))
      ∧ (l.resolved t).lastLamp = l.lastLamp := by
  rw [Link.resolved, Link.oweLamp_eq]
  exact ⟨rfl, rfl⟩

section recomputed

variable {s u : State} {h : Nat}

/-- The on-air change of a link, where there is one, is taken in the event that recomputes it (R74). -/
theorem onAirTaken_afterTally (q : u.quiet) (hr : u.radio = s.radio)
    (e : (u.link h).tuning = (s.link h).tuning) : s.onAirTaken (State.afterTally s u) h := by
  obtain ⟨state, order, timer, carrier, target, forced⟩ := Link.same_of_tuning e
  have held : s.radioHeld → (State.afterTally s u).link h = (State.deliverOnAir s u).link h :=
    fun r => afterTally_held s q (by unfold State.radioHeld at *; rwa [hr]) h
  have noOrder : ((State.deliverOnAir s u).link h).order = none →
      ((State.afterTally s u).link h).order = none
        ∧ ((State.afterTally s u).link h).timer = ((State.deliverOnAir s u).link h).timer :=
    finish_no_order s (quiet_deliverOnAir q)
  have sameState := afterTally_state s q h
  have delivered := link_deliverOnAir s u h
  unfold State.onAirTaken
  rw [afterTally_onAir s q, ← state, ← order, ← timer, ← carrier, ← target, ← forced]
  generalize (State.afterTally s u).link h = after at *
  generalize (State.deliverOnAir s u).link h = delivery at *
  refine ⟨fun waiting on off => ?_, fun f settling hc hf ht ho off on => ?_, fun unmoved => ?_⟩
  · rw [on, off, if_neg (by decide), Link.onAirChange_release waiting] at delivered
    subst delivered
    exact ⟨sameState, fun r => by rw [held r]; exact ⟨rfl, rfl⟩⟩
  · rw [on, off, if_neg (by decide), Link.onAirChange_withdraw settling hc hf ht ho] at delivered
    subst delivered
    exact ⟨sameState, noOrder rfl⟩
  · have same : delivery = u.link h := by
      rw [delivered]
      split
      · rfl
      · exact Link.onAirChange_unmoved (unmoved.resolve_left ‹_›)
    rw [← same]
    exact ⟨sameState, fun r => by rw [held r]; exact ⟨rfl, rfl⟩⟩

/-- The lamp of a record that has been recomputed (R128). -/
theorem lampFollows_afterTally (q : u.quiet) (hr : u.radio = s.radio) {t : TallyBlock} {l : Link}
    (e : u.link h = l.resolved t) (hl : l.uncontrolled = (s.link h).uncontrolled) :
    s.lampFollows (State.afterTally s u) h := by
  intro r
  have steady : ((State.afterTally s u).link h).steady = (l.resolved t).steady := by
    rw [afterTally_held s q (by unfold State.radioHeld at *; rwa [hr]), deliverOnAir_steady, e]
  have kind : l.kind = (s.link h).kind := (congrArg Link.kind hl :)
  have owed : l.lampOwed = (s.link h).lampOwed := (congrArg Link.lampOwed hl :)
  have last : l.lastLamp = (s.link h).lastLamp := (congrArg Link.lastLamp hl :)
  obtain ⟨lampOwed, lastLamp⟩ := l.resolved_lamp t
  rw [← kind, ← owed, ← last]
  show ((State.afterTally s u).link h).steady.lampOwed
      = (l.lampOwed || (l.kind == some .camera
        && ((State.afterTally s u).link h).steady.lamp != l.lastLamp))
    ∧ ((State.afterTally s u).link h).steady.lastLamp = l.lastLamp
  rw [steady]
  exact ⟨lampOwed, lastLamp⟩

end recomputed

theorem SameButEnd.venue {s t : State} (e : SameButEnd s t) : s.sameVenue t :=
  ⟨e.profile, e.blocked, e.plans, e.cts, e.rrx, e.mrx⟩

theorem answeredOnly_respond {s t : State} (e : t.port = s.port) (code : Nat) (st : Status)
    (body : RespBody) : s.answeredOnly (t.respond code st body) code st body := by
  unfold State.answeredOnly State.respond
  rw [e]
  rfl

end Sys2Proof.Machine
end

section
/-! What the events of the Tally Resolver leave: a change at one source, a loaded map, and a change of one
link's own controls (R112, R114 to R116, R121, R122, R125, R127). -/

namespace Sys2Proof.Machine

open Sys2Proof

/-! ### Sources (R117, R118) -/

@[simp] theorem TallyBlock.map_setSrc (t : TallyBlock) (x : Source) (v : Src) :
    (t.setSrc x v).map = t.map := by
  cases x <;> rfl

theorem TallyBlock.cascade_setSrc (t : TallyBlock) (x y : Source) (v : Src) :
    (t.setSrc x v).cascade y = t.cascade y := by
  rw [TallyBlock.cascade, TallyBlock.cascade, TallyBlock.map_setSrc]

theorem TallyBlock.pathN_setSrc (t : TallyBlock) (x y : Source) (v : Src) (n : Nat) :
    (t.setSrc x v).pathN n y = t.pathN n y := by
  induction n generalizing y with
  | zero => rfl
  | succ n ih => simp only [TallyBlock.pathN, TallyBlock.cascade_setSrc, ih]

/-- Which links are bound through a source is a matter of the map alone. -/
theorem Link.boundThrough_setSrc (t : TallyBlock) (x y : Source) (v : Src) (l : Link) :
    l.boundThrough (t.setSrc y v) x = l.boundThrough t x := by
  simp only [Link.boundThrough, TallyBlock.path, TallyBlock.pathN_setSrc]

theorem TallyBlock.protectIso_setSrc (t : TallyBlock) (x : Source) (v : Src) :
    (t.setSrc x v).protectIso = t.protectIso := by
  rw [TallyBlock.protectIso, TallyBlock.protectIso, TallyBlock.map_setSrc]

theorem State.link_changeSource (s : State) (x : Source) (v : Src) (h : Nat) :
    (s.changeSource x v).link h =
      if (s.link h).boundThrough s.tally x then (s.link h).resolved (s.tally.setSrc x v) else s.link h := by
  rw [← Link.boundThrough_setSrc s.tally x x v]
  show Tab.get (Tab.mapIdx _ _) h _ = _
  rw [Tab.get_mapIdx _ _ _ Link.free]
  split
  · rfl
  · rename_i out
    rw [s.link_out (Nat.le_of_not_lt out)]
    rfl

/-- What an on-air change and a transmitter's start leave of a record. -/
theorem Link.kept_of_steady {l m : Link} (e : l.lasting.steady = m.lasting.steady) :
    l.bindings = m.bindings ∧ l.tally = m.tally ∧ l.stale = m.stale
      ∧ l.apartFromTally = m.apartFromTally :=
  ⟨(congrArg Link.bindings e :), (congrArg Link.tally e :), (congrArg Link.stale e :),
    (congrArg Link.apartFromTally e :)⟩

section recomputed

variable {s u : State} {h : Nat}

/-- A record that an event has recomputed, or left: no more is written than resolution, an on-air change and a
transmitter's start write. -/
theorem taken_afterTally (q : u.quiet) (hr : u.radio = s.radio) {t : TallyBlock} {c : Prop} [Decidable c]
    (e : u.link h = if c then (s.link h).resolved t else s.link h) :
    ((State.afterTally s u).link h).bindings = (s.link h).bindings
      ∧ ((State.afterTally s u).link h).apartFromTally = (s.link h).apartFromTally
      ∧ s.onAirTaken (State.afterTally s u) h := by
  obtain ⟨sameBindings, -, -, sameApart⟩ := Link.kept_of_steady (afterTally_steady s q h)
  have kept : (u.link h).bindings = (s.link h).bindings
      ∧ (u.link h).apartFromTally = (s.link h).apartFromTally
      ∧ (u.link h).tuning = (s.link h).tuning := by
    rw [e]
    split
    · exact ⟨Link.resolved_bindings _ _, Link.resolved_apart _ _, Link.resolved_tuning _ _⟩
    · exact ⟨rfl, rfl, rfl⟩
  obtain ⟨bindings, apart, tuning⟩ := kept
  exact ⟨sameBindings.trans bindings, sameApart.trans apart, onAirTaken_afterTally q hr tuning⟩

/-- A recomputed record shows the tally and the stale flag of its bindings, and its lamp follows. -/
theorem resolved_afterTally (q : u.quiet) (hr : u.radio = s.radio) {t : TallyBlock} {l : Link}
    (e : u.link h = l.resolved t) (hl : l.uncontrolled = (s.link h).uncontrolled) :
    ((State.afterTally s u).link h).tally = t.resolve l.bindings
      ∧ ((State.afterTally s u).link h).stale = t.staleOf l.bindings
      ∧ s.lampFollows (State.afterTally s u) h := by
  obtain ⟨-, sameTally, sameStale, -⟩ := Link.kept_of_steady (afterTally_steady s q h)
  rw [sameTally, sameStale, e, Link.resolved_tally, Link.resolved_stale]
  exact ⟨rfl, rfl, lampFollows_afterTally q hr e hl⟩

end recomputed

/-- What a change at source `x` leaves of the links, of the standing and of the blocks beside them. -/
def State.sourceApplied (s t : State) (x : Source) : Prop :=
  (∀ h, h < 160 → (s.link h).boundThrough s.tally x = true →
      (t.link h).tally = t.tally.resolve (s.link h).bindings
      ∧ (t.link h).stale = t.tally.staleOf (s.link h).bindings ∧ s.lampFollows t h)
    ∧ (∀ h, (s.link h).boundThrough s.tally x = false → (t.link h).lasting = (s.link h).lasting)
    ∧ (∀ h, (t.link h).bindings = (s.link h).bindings
        ∧ (t.link h).apartFromTally = (s.link h).apartFromTally ∧ s.onAirTaken t h)
    ∧ t.standing ∧ t.engine.queue = s.engine.queue ∧ s.sameVenue t

/-- Source `x` becomes `v`, at time `n`, and the port becomes `p`: the recomputation that CLEAR SOURCE, a
frame and a liveness expiry have in common. -/
def State.sourceEvent (s : State) (x : Source) (v : Src) (n : Nat) (p : Port) : State :=
  ((s.setNow n).changeSource x v).setPort p

theorem sourceApplied_afterTally {s : State} (q : s.quiet) (x : Source) (v : Src) (n : Nat) (p : Port) :
    s.sourceApplied (State.afterTally s (s.sourceEvent x v n p)) x := by
  have q' : (s.sourceEvent x v n p).quiet := quiet_congr rfl rfl q
  have kept := sameButEnd_afterTally s q'
  have link : ∀ h, (s.sourceEvent x v n p).link h = if (s.link h).boundThrough s.tally x then
      (s.link h).resolved (s.tally.setSrc x v) else s.link h := (s.setNow n).link_changeSource x v
  have tally : (State.afterTally s (s.sourceEvent x v n p)).tally = s.tally.setSrc x v := kept.outside.tally
  refine ⟨fun h _ bound => ?_, fun h free => ?_, fun h => taken_afterTally (s := s) q' rfl (link h),
    standing_afterTally s q', kept.queue, kept.venue⟩
  · rw [tally]
    exact resolved_afterTally (s := s) q' rfl ((link h).trans (if_pos bound)) rfl
  · have same := (link h).trans (if_neg (by simp [free]))
    refine afterTally_untouched q' same ?_
    show ((s.sourceEvent x v n p).link h).onAir (s.tally.setSrc x v).protectIso
      = (s.link h).onAir s.tally.protectIso
    rw [same, TallyBlock.protectIso_setSrc]

theorem sourceEvent_frame {s : State} (q : s.quiet) (x : Source) (v : Src) (n : Nat) (p : Port) :
    (State.afterTally s (s.sourceEvent x v n p)).tally = s.tally.setSrc x v
      ∧ (State.afterTally s (s.sourceEvent x v n p)).port = p
      ∧ (State.afterTally s (s.sourceEvent x v n p)).lines = s.lines
      ∧ (State.afterTally s (s.sourceEvent x v n p)).pins = s.pins
      ∧ (State.afterTally s (s.sourceEvent x v n p)).now = n
      ∧ (State.afterTally s (s.sourceEvent x v n p)).pending = s.pending := by
  have kept := sameButEnd_afterTally (u := s.sourceEvent x v n p) s (quiet_congr rfl rfl q)
  exact ⟨kept.outside.tally, kept.port, kept.outside.lines, kept.outside.pins, kept.outside.now,
    kept.outside.pending⟩

/-! ### LOAD TALLY MAP (R111, R112) -/

/-- The state in which LOAD TALLY MAP has recomputed every link. -/
def State.mapEvent (s : State) (m : TallyMap) : State := (s.installMap m).resolveAll

theorem State.link_mapEvent (s : State) (m : TallyMap) (h : Nat) :
    (s.mapEvent m).link h =
      if h < 160 then (s.link h).resolved (s.mapEvent m).tally else s.link h := by
  show Tab.get (Tab.mapIdx _ _) h _ = _
  rw [Tab.get_mapIdx _ _ _ Link.free]
  split
  · rfl
  · rename_i out
    exact (s.link_out (Nat.le_of_not_lt out)).symm

/-- What a loaded map leaves of the links, of the standing and of the blocks beside them. -/
def State.mapApplied (s t : State) : Prop :=
  (∀ h, h < 160 → (t.link h).bindings = (s.link h).bindings
      ∧ (t.link h).tally = t.tally.resolve (s.link h).bindings
      ∧ (t.link h).stale = t.tally.staleOf (s.link h).bindings ∧ s.lampFollows t h)
    ∧ (∀ h, (t.link h).apartFromTally = (s.link h).apartFromTally ∧ s.onAirTaken t h)
    ∧ t.standing ∧ t.engine.queue = s.engine.queue ∧ s.sameVenue t

theorem mapApplied_afterTally {s : State} (q : s.quiet) (m : TallyMap) :
    s.mapApplied (State.afterTally s (s.mapEvent m)) := by
  have q' : (s.mapEvent m).quiet := quiet_congr rfl rfl q
  have kept := sameButEnd_afterTally s q'
  have tally : (State.afterTally s (s.mapEvent m)).tally = (s.mapEvent m).tally := kept.outside.tally
  have taken := fun h => taken_afterTally (s := s) q' rfl (s.link_mapEvent m h)
  refine ⟨fun h lt => ⟨(taken h).1, ?_⟩, fun h => (taken h).2, standing_afterTally s q', kept.queue,
    kept.venue⟩
  rw [tally]
  exact resolved_afterTally (s := s) q' rfl ((s.link_mapEvent m h).trans (if_pos lt)) rfl

/-- Two present subsidiaries that feed each other (R111 (3)). -/
theorem mapJudge_cycle {a : MapArgs} {i k : Nat} (p1 : a.present1 ≠ 0) (p2 : a.present2 ≠ 0)
    (c1 : a.cascade1 = ⟨2, i⟩) (c2 : a.cascade2 = ⟨1, k⟩) (i1 : 1 ≤ i) (i2 : i ≤ 24) (k1 : 1 ≤ k)
    (k2 : k ≤ 24) : mapJudge a = .refused .conflict := by
  have into2 : cascadeOf .sub1 ⟨2, i⟩ = some (.into .sub2 i) := by
    simp [cascadeOf, sourceOf, inputOk, sourceInputs, i1, i2]
  have into1 : cascadeOf .sub2 ⟨1, k⟩ = some (.into .sub1 k) := by
    simp [cascadeOf, sourceOf, inputOk, sourceInputs, k1, k2]
  have on1 : isOn a.present1 = true := by simpa [isOn] using p1
  have on2 : isOn a.present2 = true := by simpa [isOn] using p2
  simp only [mapJudge, c1, c2, into1, into2, on1, on2]
  simp [mapJudgeCascades, feeds, on1, on2]

/-- Settles O38: a loaded map recomputes every link, a cleared source those bound through it, and the on-air
changes are delivered after either. -/
theorem tallyMapRequests : Obligations.TallyMapRequests := by
  refine ⟨fun a m s hs q stored => ?_, fun a i k s hs p1 p2 c1 c2 i1 i2 k1 k2 => ?_,
    fun n x s hs hx => ⟨fun q present => ?_, fun absent => ?_⟩⟩
  · have own : ownLoadTallyMap a s = ⟨State.afterTally s (s.mapEvent m), .ok, .tallyMap m⟩ := by
      simp only [ownLoadTallyMap, stored]
      rfl
    have kept := sameButEnd_afterTally (u := s.mapEvent m) s (quiet_congr rfl rfl q)
    obtain ⟨resolved, every, stands, queue, venue⟩ := mapApplied_afterTally q m
    exact ⟨_, congrArg Host.Outcome.next ((take_accepts hs 25 false a ownLoadTallyMap).trans (by rw [own])),
      answeredOnly_respond kept.port _ _ _, kept.outside.tally, resolved, every, stands, queue, venue,
      kept.outside.lines, kept.outside.pins, kept.outside.now, kept.outside.pending⟩
  · have own : ownLoadTallyMap a s = s.refuse .conflict := by
      simp only [ownLoadTallyMap, mapJudge_cycle p1 p2 c1 c2 i1 i2 k1 k2]
    exact congrArg Host.Outcome.next (take_refuse hs own 25)
  · have own : ownClearSource n s
        = ⟨State.afterTally s (s.sourceEvent x Src.awaiting s.now s.port), .ok, .empty⟩ := by
      simp only [ownClearSource, hx, present]
      rfl
    obtain ⟨tally, port, lines, pins, now, pending⟩ := sourceEvent_frame q x Src.awaiting s.now s.port
    obtain ⟨bound, unbound, every, stands, queue, venue⟩ :=
      sourceApplied_afterTally q x Src.awaiting s.now s.port
    exact ⟨_, congrArg Host.Outcome.next ((take_accepts hs 26 false n ownClearSource).trans (by rw [own])),
      answeredOnly_respond port _ _ _, tally, bound, unbound, every, stands, queue, venue, lines, pins,
      now, pending⟩
  · have own : ownClearSource n s = s.refuse .badArgument := by
      simp only [ownClearSource, hx, absent]
      rfl
    exact congrArg Host.Outcome.next (take_refuse hs own 26)

/-! ### Frames and liveness (R113 to R115) -/

theorem mem_inputSet (x : Source) (l : List Nat) (i : Nat) :
    i ∈ inputSet x l ↔ 1 ≤ i ∧ i ≤ sourceInputs x ∧ i ∈ l := by
  simp only [inputSet, List.mem_filter, List.mem_range, Nat.lt_succ_iff, Bool.and_eq_true,
    decide_eq_true_eq, List.contains_iff_mem]
  tauto

theorem State.noteLive_eq (s : State) (x : Source) (was : SrcState) :
    s.noteLive x was
      = s.setPort (if was = .stale then s.port.queue (.sourceLive x) else s.port) := by
  unfold State.noteLive
  split <;> rfl

/-- A frame from a present source is taken, the receiver of its line being emptied (R113, R114). -/
theorem exec_tallyFrame {s : State} (live : s.live) {x : Source} {a : FrameArgs}
    (present : s.tally.present x = true) (hp : a.program.length ≤ 48) (hq : a.preview.length ≤ 48) :
    exec (.tallyFrame x (.fields a)) s
      = .next (State.afterTally (s.lineDone x) ((s.lineDone x).sourceEvent x (s.framed x a) s.now
          (if (s.tally.src x).state = .stale then s.port.queue (.sourceLive x) else s.port))) := by
  refine congrArg Host.Outcome.next ((event_live live.1 _).trans ?_)
  have taken : (!(s.lineDone x).configured || !(s.lineDone x).tally.present x) = false := by
    rw [lineDone_configured, live.2, lineDone_eq, State.setLines_tally, present]
    rfl
  rw [State.tallyFrame, if_neg (Bool.eq_false_iff.mp taken), if_neg (by omega), State.takeFrame,
    State.noteLive_eq, lineDone_eq]
  rfl

theorem exec_livenessExpiry {s : State} (hr : s.pins.inReset = false) {x : Source} {d : Nat}
    (hd : (s.tally.src x).deadline = some d) :
    exec (.livenessExpiry x) s
      = .next (State.afterTally s (s.sourceEvent x
          { s.tally.src x with state := .stale, deadline := none } (max s.now d)
          (s.port.queue (.sourceStale x)))) := by
  refine congrArg Host.Outcome.next ((event_live hr _).trans ?_)
  simp only [hd]
  rfl

/-- Settles O41: a frame and an expiry change one source and recompute the links bound through it. -/
theorem framesAndLiveness : Obligations.FramesAndLiveness := by
  refine ⟨fun x p q m s live hm present hp hq quiet => ?_, fun x d s hr hd quiet => ?_⟩
  · have quiet' : (s.setLines (s.lines.emptied x)).quiet := quiet_congr rfl rfl quiet
    have taken := exec_tallyFrame live present (a := ⟨p, q⟩) hp hq
    rw [lineDone_eq] at taken
    obtain ⟨tally, port, -, pins, now, -⟩ := sourceEvent_frame quiet' x (s.framed x ⟨p, q⟩) s.now
      (if (s.tally.src x).state = .stale then s.port.queue (.sourceLive x) else s.port)
    obtain ⟨bound, unbound, every, stands, queue, venue⟩ :=
      sourceApplied_afterTally quiet' x (s.framed x ⟨p, q⟩) s.now
        (if (s.tally.src x).state = .stale then s.port.queue (.sourceLive x) else s.port)
    have deadline : (s.framed x ⟨p, q⟩).deadline
        = if m.live x = 0 then none else some (s.now + 10 * m.live x) := by
      simp only [State.framed, TallyBlock.liveDeadline, hm]
    exact ⟨_, s.framed x ⟨p, q⟩, taken, tally, rfl, mem_inputSet x p, mem_inputSet x q, deadline, port,
      bound, unbound, every, stands, queue, venue, pins, now⟩
  · obtain ⟨tally, port, lines, pins, now, -⟩ := sourceEvent_frame quiet x
      { s.tally.src x with state := .stale, deadline := none } (max s.now d)
      (s.port.queue (.sourceStale x))
    obtain ⟨bound, unbound, every, stands, queue, venue⟩ :=
      sourceApplied_afterTally quiet x { s.tally.src x with state := .stale, deadline := none }
        (max s.now d) (s.port.queue (.sourceStale x))
    exact ⟨_, exec_livenessExpiry hr hd, tally, port, now, bound, unbound, every, stands, queue, venue,
      pins, lines⟩

/-! ### One link's own controls (R121, R122, R125, R127) -/

/-- The state in which a request has replaced record `h` by `l` and recomputed it. -/
def State.controlEvent (s : State) (h : Nat) (l : Link) : State := (s.setLink h l).resolveLink h

theorem State.link_controlEvent (s : State) {h : Nat} (hh : h < 160) (l : Link) :
    (s.controlEvent h l).link h = l.resolved s.tally := by
  simp only [State.controlEvent, State.resolveLink, State.link_setLink_same, hh, State.setLink_tally]

theorem State.link_controlEvent_other (s : State) {h g : Nat} (l : Link) (hg : g ≠ h) :
    (s.controlEvent h l).link g = s.link g := by
  simp only [State.controlEvent, State.resolveLink, ne_eq, hg, not_false_eq_true,
    State.link_setLink_other]

/-- What a request that replaces the controls of record `h` leaves, the record with them being `l`. -/
structure Controlled (s t : State) (h : Nat) (l : Link) : Prop where
  bindings : (t.link h).bindings = l.bindings
  tally : (t.link h).tally = s.tally.resolve l.bindings
  stale : (t.link h).stale = s.tally.staleOf l.bindings
  lamp : s.lampFollows t h
  apart : (t.link h).apartFromTally = l.apartFromTally
  onAir : s.onAirTaken t h
  standing : t.standing
  others : s.otherLinks t h
  queue : t.engine.queue = s.engine.queue
  venue : s.sameVenue t
  outside : s.sameOutside t

theorem controlled_afterTally {s : State} (q : s.quiet) {h : Nat} (hh : h < 160) {l : Link}
    (hl : l.uncontrolled = (s.link h).uncontrolled) :
    Controlled s (State.afterTally s (s.controlEvent h l)) h l := by
  have q' : (s.controlEvent h l).quiet := quiet_congr rfl rfl q
  have kept := sameButEnd_afterTally s q'
  have link := s.link_controlEvent hh l
  obtain ⟨sameBindings, -, -, sameApart⟩ := Link.kept_of_steady (afterTally_steady s q' h)
  have tuning : ((s.controlEvent h l).link h).tuning = (s.link h).tuning := by
    rw [link, Link.resolved_tuning]
    exact (congrArg Link.tuning hl :)
  obtain ⟨tally, stale, lamp⟩ := resolved_afterTally (s := s) q' rfl link hl
  refine ⟨by rw [sameBindings, link, Link.resolved_bindings], tally, stale, lamp,
    by rw [sameApart, link, Link.resolved_apart], onAirTaken_afterTally q' rfl tuning,
    standing_afterTally s q', fun g hg => ?_, kept.queue, kept.venue, kept.outside.same⟩
  have same := s.link_controlEvent_other l hg
  exact afterTally_untouched q' same (congrArg (Link.onAir s.tally.protectIso) same)

theorem Controlled.respond {s t : State} {h : Nat} {l : Link} (c : Controlled s t h l) (code : Nat)
    (st : Status) (body : RespBody) : Controlled s (t.respond code st body) h l :=
  ⟨c.bindings, c.tally, c.stale, c.lamp, c.apart, c.onAir, c.standing, c.others, c.queue, c.venue,
    c.outside⟩

/-- A request whose owner replaces the controls of record `h`. -/
theorem take_controlEvent {α : Type} {s : State} (hs : s.accepts) (q : s.quiet)
    {own : α → State → Answer} {a : α} {h : Nat} (hh : h < 160) {l : Link} {body : RespBody}
    (ho : own a s = ⟨State.afterTally s (s.controlEvent h l), .ok, body⟩)
    (hl : l.uncontrolled = (s.link h).uncontrolled) (code : Nat) :
    ∃ t, (.next (s.take code false (.args a) own) : Host.Outcome State Fault Refusal) = .next t
      ∧ s.answeredOnly t code .ok body ∧ Controlled s t h l := by
  have kept := sameButEnd_afterTally (u := s.controlEvent h l) s (quiet_congr rfl rfl q)
  exact ⟨_, by rw [take_accepts hs, ho], answeredOnly_respond kept.port _ _ _,
    (controlled_afterTally q hh hl).respond _ _ _⟩

/-! ### BIND and UNBIND (R121, R122) -/

/-- BIND at an occupied link that does not hold the binding (R121). -/
theorem ownBind_occupied {s : State} {h n i : Nat} {x : Binding} (hh : h ≤ 159)
    (hx : bindingOf n i = some x) (present : s.tally.present x.source = true)
    (ho : (s.link h).state.occupied = true) (new : x ∉ (s.link h).bindings) :
    ownBind ⟨h, n, i⟩ s =
      match s.boundTo x with
      | some g => s.refuseWith .duplicate (.handle g)
      | none =>
        if 2 ≤ (s.link h).bindings.length then s.refuse .tableFull
        else ⟨State.afterTally s (s.controlEvent h
          { s.link h with bindings := (s.link h).bindings ++ [x] }), .ok, .empty⟩ := by
  obtain ⟨notFree, notChecking⟩ := (LinkState.occupied_iff _).mp ho
  have arg : s.bindArg ⟨h, n, i⟩ = some x := by
    simp [State.bindArg, hx, (handleOk_iff h).mpr hh, present]
  simp only [ownBind, arg]
  rw [withLink_exists ((handleOk_iff h).mpr hh) notFree, if_neg notChecking,
    if_neg (by simpa using new)]
  rfl

theorem ownUnbind_bound {s : State} {h n i : Nat} {x : Binding} (hx : bindingOf n i = some x)
    (hh : h < 160) (bound : x ∈ (s.link h).bindings) (below : ∀ k, k < h → x ∉ (s.link k).bindings) :
    ownUnbind ⟨n, i⟩ s = ⟨State.afterTally s (s.controlEvent h
      { s.link h with bindings := (s.link h).bindings.erase x }), .ok, .handle h⟩ := by
  simp only [ownUnbind, hx, (s.boundTo_eq_some_iff x h).mpr ⟨hh, bound, below⟩]
  rfl

/-- Settles O39: both requests replace the bindings of one record and recompute it. -/
theorem bindingRequests : Obligations.BindingRequests := by
  refine ⟨fun h n i x s hs hh hx present ho new => ?_, fun h n i x s hs hx hh bound below q => ?_⟩
  · have own := ownBind_occupied hh hx present ho new
    refine ⟨fun unbound two q => ?_, fun unbound two => ?_, fun g hg bound below => ?_⟩
    · rw [(s.boundTo_eq_none_iff x).mpr unbound] at own
      obtain ⟨t, taken, answered, c⟩ := take_controlEvent hs q (Nat.lt_succ_of_le hh)
        (own.trans (if_neg (Nat.not_le.mpr two))) rfl 27
      exact ⟨t, taken, answered, c.bindings, c.tally, c.stale, c.lamp, c.apart, c.onAir, c.standing,
        c.others, c.queue, c.venue, c.outside⟩
    · rw [(s.boundTo_eq_none_iff x).mpr unbound] at own
      exact congrArg Host.Outcome.next (take_refuse hs (own.trans (if_pos two)) 27)
    · rw [(s.boundTo_eq_some_iff x g).mpr ⟨hg, bound, below⟩] at own
      exact congrArg Host.Outcome.next ((take_accepts hs 27 false _ ownBind).trans (by rw [own]; rfl))
  · obtain ⟨t, taken, answered, c⟩ :=
      take_controlEvent hs q hh (ownUnbind_bound hx hh bound below) rfl 28
    exact ⟨t, taken, answered, c.bindings, c.tally, c.stale, c.lamp, c.apart,
      c.onAir, c.standing, c.others, c.queue, c.venue, c.outside⟩

/-! ### HOLD LIVE and SUPPRESS (R125, R127) -/

theorem ownHoldLive_occupied {s : State} {h n : Nat} (hh : h ≤ 159)
    (ho : (s.link h).state.occupied = true) :
    ownHoldLive ⟨h, n⟩ s =
      if (s.link h).holdLive = isOn n then s.ok
      else ⟨State.afterTally s (s.controlEvent h { s.link h with holdLive := isOn n }), .ok, .empty⟩ := by
  obtain ⟨notFree, notChecking⟩ := (LinkState.occupied_iff _).mp ho
  rw [ownHoldLive, withLink_exists ((handleOk_iff h).mpr hh) notFree, if_neg notChecking]
  rfl

theorem ownSuppress_occupied {s : State} {h n : Nat} (hh : h ≤ 159)
    (ho : (s.link h).state.occupied = true) :
    ownSuppress ⟨h, n⟩ s =
      if (s.link h).kind ≠ some .camera then s.refuse .badArgument
      else ⟨State.afterTally s (s.controlEvent h { s.link h with suppress := isOn n }), .ok, .empty⟩ := by
  obtain ⟨notFree, notChecking⟩ := (LinkState.occupied_iff _).mp ho
  rw [ownSuppress, withLink_exists ((handleOk_iff h).mpr hh) notFree, if_neg notChecking]
  rfl

theorem onAir_of_holdLive {s : State} {h : Nat} (e : (s.link h).holdLive = true) : s.onAir h = true := by
  rw [State.onAir, Link.onAir, e, Bool.or_true]

/-- What a changed hold does to the state and the order of its link, by the state it finds (R74, R125): the
on-air change that the hold may have made has been taken. -/
theorem holdLive_changes {s t : State} {h n : Nat} (changed : (s.link h).holdLive ≠ (n != 0))
    (set : (t.link h).holdLive = (n != 0)) (taken : s.onAirTaken t h) :
    ((s.link h).state = .retuneWait → s.onAir h = true → t.onAir h = false →
        (t.link h).state = .settling
        ∧ (s.radioHeld → (t.link h).order = (s.link h).target.map .tune))
    ∧ (n ≠ 0 → t.onAir h = true)
    ∧ ((s.link h).state = .retuneWait → t.onAir h = true → (t.link h).state = .retuneWait)
    ∧ (∀ f, (s.link h).state = .settling → n ≠ 0 → s.onAir h = false →
        (s.link h).carrier.isSome = true → (s.link h).forced = false → (s.link h).target = some f →
        (s.link h).order = some (.tune f) →
        (t.link h).state = .retuneWait ∧ (t.link h).order = none)
    ∧ ((s.link h).state = .settling → n = 0 ∨ s.onAir h = true ∨ (s.link h).carrier = none
        ∨ (s.link h).forced = true ∨ (s.link h).order = none → (t.link h).state = .settling)
    ∧ ((s.link h).state ≠ .retuneWait → (s.link h).state ≠ .settling →
        (t.link h).state = (s.link h).state) := by
  obtain ⟨released, withdrawn, unmoved⟩ := taken
  have held : n ≠ 0 → t.onAir h = true := fun hn => onAir_of_holdLive (set.trans (by simpa using hn))
  refine ⟨fun waiting on off => ?_, held, fun waiting on => ?_,
    fun f settling hn off hc hf ht ho => ?_, fun settling why => ?_, fun notWaiting notSettling => ?_⟩
  · obtain ⟨state, sent⟩ := released waiting on off
    exact ⟨state, fun r => (sent r).1⟩
  · exact (unmoved (.inr (.inr (.inl ⟨waiting, on⟩)))).1.trans waiting
  · obtain ⟨state, order, -⟩ := withdrawn f settling hc hf ht ho off (held hn)
    exact ⟨state, order⟩
  · have wasOn : n = 0 → s.onAir h = true := by
      rintro rfl
      exact onAir_of_holdLive (by simpa using changed)
    refine (unmoved ?_).1.trans settling
    rcases why with zero | on | carrier | forced | order
    · cases e : t.onAir h with
      | true => exact .inl (wasOn zero)
      | false => exact .inr (.inr (.inr ⟨settling, .inl rfl⟩))
    · cases e : t.onAir h with
      | true => exact .inl on
      | false => exact .inr (.inr (.inr ⟨settling, .inl rfl⟩))
    · exact .inr (.inr (.inr ⟨settling, .inr (.inl carrier)⟩))
    · exact .inr (.inr (.inr ⟨settling, .inr (.inr (.inl forced))⟩))
    · exact .inr (.inr (.inr ⟨settling, .inr (.inr (.inr order))⟩))
  · exact (unmoved (.inr (.inl ⟨notWaiting, notSettling⟩))).1

/-- Settles O40: both requests replace one flag of the record and recompute it. -/
theorem holdLiveAndSuppress : Obligations.HoldLiveAndSuppress := by
  intro h n s hs hh ho q
  have hh' : h < 160 := Nat.lt_succ_of_le hh
  refine ⟨fun changed => ?_, fun same => ?_, fun camera => ?_, fun other => ?_⟩
  · have own := (ownHoldLive_occupied (n := n) hh ho).trans (if_neg changed)
    obtain ⟨t, taken, answered, c⟩ := take_controlEvent hs q hh' own rfl 29
    have set : (t.link h).holdLive = (n != 0) := (congrArg Link.holdLive c.apart :)
    obtain ⟨released, held, waits, withdrawn, settles, others⟩ := holdLive_changes changed set c.onAir
    exact ⟨t, taken, answered, set, c.tally, c.stale, c.lamp, c.apart,
      c.bindings, c.onAir, c.standing, released, held, waits, withdrawn, settles, others, c.others,
      c.queue, c.venue, c.outside⟩
  · have own := (ownHoldLive_occupied (n := n) hh ho).trans (if_pos same)
    exact congrArg Host.Outcome.next (take_okWith hs own 29)
  · have own := (ownSuppress_occupied (n := n) hh ho).trans (if_neg (not_not.mpr camera))
    obtain ⟨t, taken, answered, c⟩ := take_controlEvent hs q hh' own rfl 30
    have set : (t.link h).suppress = (n != 0) := (congrArg Link.suppress c.apart :)
    refine ⟨t, taken, answered, set, fun hn => ?_, fun r differs => ?_,
      (congrArg Link.holdLive c.apart :), c.others, c.queue, c.venue, c.outside⟩
    · exact if_pos (set.trans (by simpa using hn))
    · rw [(c.lamp r).1]
      simp [camera, differs]
  · have own := (ownSuppress_occupied (n := n) hh ho).trans (if_pos other)
    exact congrArg Host.Outcome.next (take_refuse hs own 30)

end Sys2Proof.Machine
end

section
/-! What a check finds: the candidate against the span, the map and the terms of tests 3 to 9, and the order in
which the terms stand (R48 to R57). -/

namespace Sys2Proof.Machine

open Sys2Proof

/-! ### The terms as conditions on carriers (R47, R50 to R52) -/

/-- The term of a place, where one is formed, does not fail. -/
def Clears (o : Option Term) : Prop := ∀ t, o = some t → 0 ≤ t.margin

/-- No term of a list fails. -/
def allClear (ts : List Term) : Prop := ∀ t, t ∈ ts → 0 ≤ t.margin

theorem allClear_append (ts us : List Term) : allClear (ts ++ us) ↔ allClear ts ∧ allClear us := by
  simp [allClear, or_imp, forall_and]

theorem allClear_filterMap {α : Type} (f : α → Option Term) (l : List α) :
    allClear (l.filterMap f) ↔ ∀ x, x ∈ l → Clears (f x) := by
  constructor
  · exact fun h x m t e => h t (List.mem_filterMap.mpr ⟨x, m, e⟩)
  · intro h t m
    obtain ⟨x, m, e⟩ := List.mem_filterMap.mp m
    exact h x m t e

theorem allClear_flatMap {α : Type} (f : α → List Term) (l : List α) :
    allClear (l.flatMap f) ↔ ∀ x, x ∈ l → allClear (f x) := by
  constructor
  · exact fun h x m t e => h t (List.mem_flatMap.mpr ⟨x, m, e⟩)
  · intro h t m
    obtain ⟨x, m, e⟩ := List.mem_flatMap.mp m
    exact h x m t e

theorem clears_ite {c : Prop} [Decidable c] (t : Term) :
    Clears (if c then some t else none) ↔ (c → 0 ≤ t.margin) := by
  by_cases h : c <;> simp [Clears, h]

theorem clears_spacingTerm (p : Profile) (c o : Party) :
    Clears (spacingTerm p.gcc c o) ↔ p.apart c o := by
  rw [spacingTerm, clears_ite, Profile.apart, Bool.and_eq_true, and_imp]
  simp only [Int.sub_nonneg]

theorem clears_imTerm (test : Test) (guard : Nat) (cs : List (Int × Party)) (v : Party) :
    Clears (imTerm test guard cs v) ↔ productClear guard cs v := by
  have contribute : (cs.map (·.2)).all (·.contributes) = true
      ↔ ∀ x, x ∈ cs → x.2.contributes = true := by simp
  simp only [imTerm, clears_ite, productClear, Bool.and_eq_true, contribute, and_imp, Int.sub_nonneg]

theorem mem_pairs (occ : List Party) (a b : Party) : (a, b) ∈ pairs occ ↔ a ∈ occ ∧ b ∈ occ := by
  simp [pairs]

theorem mem_orderedPairs (occ : List Party) (a b : Party) :
    (a, b) ∈ orderedPairs occ ↔ (a ∈ occ ∧ b ∈ occ) ∧ a.key.before b.key = true := by
  rw [orderedPairs, List.mem_filter, mem_pairs]

theorem forall_pairs (occ : List Party) (P : Party × Party → Prop) :
    (∀ x, x ∈ pairs occ → P x) ↔ ∀ a b, a ∈ occ → b ∈ occ → P (a, b) := by
  simp only [Prod.forall, mem_pairs, and_imp]

theorem forall_orderedPairs (occ : List Party) (P : Party × Party → Prop) :
    (∀ x, x ∈ orderedPairs occ → P x)
      ↔ ∀ a b, a ∈ occ → b ∈ occ → a.key.before b.key = true → P (a, b) := by
  simp only [Prod.forall, mem_orderedPairs, and_imp]

/-- A candidate that does not contribute forms no product (R54). -/
theorem productClear_of_silent {guard : Nat} {cs : List (Int × Party)} {v : Party} {x : Int × Party}
    (hx : x ∈ cs) (silent : x.2.contributes = false) : productClear guard cs v := by
  intro _ _ contribute
  simp [contribute x hx] at silent

/-- The terms that a candidate meets as a victim (tests 3 to 6). -/
theorem allClear_met (p : Profile) (occ : List Party) (c : Party) :
    allClear (spacingTerms p occ c ++ im32VTerms p occ c ++ im33VTerms p occ c ++ im5VTerms p occ c) ↔
      (∀ o, o ∈ occ → p.apart c o)
      ∧ (∀ a b, a ∈ occ → b ∈ occ → productClear p.g3 [(2, a), (-1, b)] c)
      ∧ (∀ a b d, a ∈ occ → b ∈ occ → d ∈ occ → a.key.before b.key = true →
          productClear p.g3 [(1, a), (1, b), (-1, d)] c)
      ∧ (p.im5 = true → ∀ a b, a ∈ occ → b ∈ occ → productClear p.g5 [(3, a), (-2, b)] c) := by
  have spacing : allClear (spacingTerms p occ c) ↔ ∀ o, o ∈ occ → p.apart c o := by
    simp only [spacingTerms, allClear_filterMap, clears_spacingTerm]
  have im32V : allClear (im32VTerms p occ c)
      ↔ ∀ a b, a ∈ occ → b ∈ occ → productClear p.g3 [(2, a), (-1, b)] c := by
    simp only [im32VTerms, allClear_filterMap, forall_pairs, clears_imTerm]
  have im33V : allClear (im33VTerms p occ c) ↔ ∀ a b d, a ∈ occ → b ∈ occ → d ∈ occ →
      a.key.before b.key = true → productClear p.g3 [(1, a), (1, b), (-1, d)] c := by
    simp only [im33VTerms, allClear_flatMap, allClear_filterMap, forall_orderedPairs, clears_imTerm]
    exact ⟨fun h a b d ha hb hd k => h a b ha hb k d hd, fun h a b ha hb k d hd => h a b d ha hb hd k⟩
  have im5V : allClear (im5VTerms p occ c)
      ↔ (p.im5 = true → ∀ a b, a ∈ occ → b ∈ occ → productClear p.g5 [(3, a), (-2, b)] c) := by
    unfold im5VTerms
    split
    · rename_i on
      simp only [allClear_filterMap, forall_pairs, clears_imTerm, on, true_imp_iff]
    · rename_i off
      simp [allClear, off]
  rw [allClear_append, allClear_append, allClear_append, spacing, im32V, im33V, im5V]
  tauto

/-- The terms that a candidate forms as a contributor (tests 7 to 9). -/
theorem allClear_formed (p : Profile) (occ : List Party) (c : Party) :
    allClear (im32CTerms p occ c ++ im33CTerms p occ c ++ im5CTerms p occ c) ↔
      (∀ a v, a ∈ occ → v ∈ occ →
        productClear p.g3 [(2, c), (-1, a)] v ∧ productClear p.g3 [(2, a), (-1, c)] v)
      ∧ (∀ a b v, a ∈ occ → b ∈ occ → v ∈ occ → productClear p.g3 [(1, c), (1, a), (-1, b)] v)
      ∧ (∀ a b v, a ∈ occ → b ∈ occ → v ∈ occ → a.key.before b.key = true →
          productClear p.g3 [(1, a), (1, b), (-1, c)] v)
      ∧ (p.im5 = true → ∀ a b, a ∈ occ → b ∈ occ →
          productClear p.g5 [(3, c), (-2, a)] b ∧ productClear p.g5 [(3, a), (-2, c)] b) := by
  have im32C : allClear (im32CTerms p occ c) ↔ ∀ a v, a ∈ occ → v ∈ occ →
      productClear p.g3 [(2, c), (-1, a)] v ∧ productClear p.g3 [(2, a), (-1, c)] v := by
    simp only [im32CTerms, allClear_append, allClear_filterMap, forall_pairs, clears_imTerm]
    exact ⟨fun h a v ha hv => ⟨h.1 a v ha hv, h.2 a v ha hv⟩,
      fun h => ⟨fun a v ha hv => (h a v ha hv).1, fun a v ha hv => (h a v ha hv).2⟩⟩
  have im33C : allClear (im33CTerms p occ c) ↔
      (∀ a b v, a ∈ occ → b ∈ occ → v ∈ occ → productClear p.g3 [(1, c), (1, a), (-1, b)] v)
      ∧ ∀ a b v, a ∈ occ → b ∈ occ → v ∈ occ → a.key.before b.key = true →
          productClear p.g3 [(1, a), (1, b), (-1, c)] v := by
    simp only [im33CTerms, allClear_append, allClear_flatMap, allClear_filterMap, forall_pairs,
      forall_orderedPairs, clears_imTerm]
    exact and_congr
      ⟨fun h a b v ha hb hv => h a b ha hb v hv, fun h a b ha hb v hv => h a b v ha hb hv⟩
      ⟨fun h a b v ha hb hv k => h a b ha hb k v hv, fun h a b ha hb k v hv => h a b v ha hb hv k⟩
  have im5C : allClear (im5CTerms p occ c) ↔ (p.im5 = true → ∀ a b, a ∈ occ → b ∈ occ →
      productClear p.g5 [(3, c), (-2, a)] b ∧ productClear p.g5 [(3, a), (-2, c)] b) := by
    unfold im5CTerms
    split
    · rename_i on
      simp only [allClear_append, allClear_filterMap, forall_pairs, clears_imTerm]
      exact ⟨fun h _ a v ha hv => ⟨h.1 a v ha hv, h.2 a v ha hv⟩,
        fun h => ⟨fun a v ha hv => (h on a v ha hv).1, fun a v ha hv => (h on a v ha hv).2⟩⟩
    · rename_i off
      simp [allClear, off]
  rw [allClear_append, allClear_append, im32C, im33C, im5C]
  tauto

/-- A candidate that does not contribute is clear of every product it would form. -/
theorem formed_of_silent {c : Party} (silent : c.contributes = false) (p : Profile) (occ : List Party) :
    allClear (im32CTerms p occ c ++ im33CTerms p occ c ++ im5CTerms p occ c) := by
  rw [allClear_formed]
  exact ⟨fun a v _ _ => ⟨productClear_of_silent (x := (2, c)) (by simp) silent,
      productClear_of_silent (x := (-1, c)) (by simp) silent⟩,
    fun a b v _ _ _ => productClear_of_silent (x := (1, c)) (by simp) silent,
    fun a b v _ _ _ _ => productClear_of_silent (x := (-1, c)) (by simp) silent,
    fun _ a b _ _ => ⟨productClear_of_silent (x := (3, c)) (by simp) silent,
      productClear_of_silent (x := (-2, c)) (by simp) silent⟩⟩

/-- No term fails exactly where the candidate is clear of the occupied set (R50 to R54). -/
theorem allClear_checkTerms (p : Profile) (occ : List Party) (c : Party) :
    allClear (checkTerms p occ c) ↔ p.termsClear occ c := by
  have formed : allClear (if c.contributes then im32CTerms p occ c ++ im33CTerms p occ c ++ im5CTerms p occ c
      else []) ↔ allClear (im32CTerms p occ c ++ im33CTerms p occ c ++ im5CTerms p occ c) := by
    cases h : c.contributes with
    | true => simp
    | false => exact iff_of_true (by simp [allClear]) (formed_of_silent h p occ)
  rw [checkTerms, allClear_append, formed, allClear_met, allClear_formed, Profile.termsClear]
  constructor
  · rintro ⟨⟨apart, two, three, five⟩, twoC, threeC, threeC', fiveC⟩
    exact ⟨apart, two, three, twoC, threeC, threeC', fun on a b ha hb =>
      ⟨five on a b ha hb, fiveC on a b ha hb⟩⟩
  · rintro ⟨apart, two, three, twoC, threeC, threeC', five⟩
    exact ⟨⟨apart, two, three, fun on a b ha hb => (five on a b ha hb).1⟩, twoC, threeC, threeC',
      fun on a b ha hb => (five on a b ha hb).2⟩

/-! ### The finding (R48, R49, R55) -/

theorem spanFault_eq_none_iff (p : Profile) (c : Party) : spanFault p c = none ↔ p.inSpan c := by
  unfold spanFault Profile.inSpan
  split
  · simp; omega
  · split
    · simp; omega
    · simp; omega

theorem spanFault_eq_some_iff (p : Profile) (c : Party) (d : FailDetail) :
    spanFault p c = some d ↔
      d = .span .low p.spanLow ∧ (c.step : Int) - c.half < p.spanLow
      ∨ d = .span .high p.spanHigh ∧ (p.spanLow : Int) ≤ c.step - c.half
        ∧ (p.spanHigh : Int) < c.step + c.half := by
  unfold spanFault
  split
  · rename_i low
    simp [low, eq_comm]
  · rename_i low
    split
    · rename_i high
      simp [low, high, eq_comm]
      omega
    · rename_i high
      simp [low, high]

theorem firstBlocked_eq_none_iff (p : Profile) (m : Tab 96 Bool) (c : Party) :
    firstBlocked p m c.step c.half = none ↔ p.unblocked m c 96 := by
  simp [firstBlocked, Profile.unblocked, List.find?_eq_none]

theorem firstBlocked_eq_some_iff (p : Profile) (m : Tab 96 Bool) (c : Party) (k : Nat) :
    firstBlocked p m c.step c.half = some k ↔
      k < 96 ∧ m.get k false = true ∧ p.touches c.step c.half k = true ∧ p.unblocked m c k := by
  simp only [firstBlocked, List.find?_range_eq_some, Profile.unblocked, Bool.and_eq_true, List.mem_range,
    Bool.not_eq_eq_eq_not, Bool.not_true, Bool.and_eq_false_imp]
  tauto

theorem termFault_eq_none_iff (ts : List Term) : termFault ts = none ↔ allClear ts := by
  simp [termFault, allClear, List.find?_eq_none]

theorem termFault_eq_some_iff (ts : List Term) (d : FailDetail) :
    termFault ts = some d ↔ ∃ before u after, ts = before ++ u :: after
      ∧ d = .term u.ref ∧ u.margin < 0 ∧ ∀ w, w ∈ before → 0 ≤ w.margin := by
  simp only [termFault, Option.map_eq_some_iff, List.find?_eq_some_iff_append]
  constructor
  · rintro ⟨u, ⟨fails, before, after, e, clear⟩, rfl⟩
    exact ⟨before, u, after, e, rfl, by simpa using fails, by simpa using clear⟩
  · rintro ⟨before, u, after, e, rfl, fails, clear⟩
    exact ⟨u, ⟨by simpa using fails, before, after, e, by simpa using clear⟩, rfl⟩

/-- The first failing test decides (R55). -/
theorem check_eq_fail_iff (p : Profile) (m : Tab 96 Bool) (occ : List Party) (c : Party) (d : FailDetail) :
    check p m occ c = .fail d ↔
      spanFault p c = some d
      ∨ p.inSpan c ∧ blockedFault p m c = some d
      ∨ p.inSpan c ∧ p.unblocked m c 96 ∧ termFault (checkTerms p occ c) = some d := by
  have noBlock : blockedFault p m c = none ↔ p.unblocked m c 96 := by
    rw [blockedFault, Option.map_eq_none_iff, firstBlocked_eq_none_iff]
  rw [← spanFault_eq_none_iff, ← noBlock, check]
  cases spanFault p c with
  | some e => simp
  | none =>
    cases blockedFault p m c with
    | some e => simp
    | none => cases termFault (checkTerms p occ c) <;> simp

/-- A check that passes found nothing (R55). -/
theorem check_eq_pass_iff (p : Profile) (m : Tab 96 Bool) (occ : List Party) (c : Party) :
    (∃ margin term, check p m occ c = .pass margin term)
      ↔ p.inSpan c ∧ p.unblocked m c 96 ∧ p.termsClear occ c := by
  rw [← spanFault_eq_none_iff, ← firstBlocked_eq_none_iff, ← allClear_checkTerms, ← termFault_eq_none_iff,
    check]
  cases spanFault p c with
  | some e => simp
  | none =>
    cases h : firstBlocked p m c.step c.half with
    | some k => simp [blockedFault, h]
    | none => cases termFault (checkTerms p occ c) <;> simp [blockedFault, h]

/-! ### The worst term (R57) -/

theorem worstTerm_eq_none_iff (ts : List Term) : worstTerm ts = none ↔ ts = [] := by
  cases ts with
  | nil => simp [worstTerm]
  | cons t ts =>
    simp only [worstTerm, reduceCtorEq, iff_false]
    split
    · simp
    · split <;> simp

/-- The worst term is the first of smallest margin. -/
theorem worstTerm_spec {ts : List Term} {u : Term} (h : worstTerm ts = some u) :
    ∃ before after, ts = before ++ u :: after ∧ (∀ w, w ∈ before → u.margin < w.margin)
      ∧ ∀ w, w ∈ after → u.margin ≤ w.margin := by
  induction ts generalizing u with
  | nil => cases h
  | cons t ts ih =>
    rw [worstTerm] at h
    split at h
    · rename_i last
      cases h
      rw [worstTerm_eq_none_iff] at last
      exact ⟨[], ts, rfl, by simp, by simp [last]⟩
    · rename_i v rest
      obtain ⟨before, after, e, above, atLeast⟩ := ih rest
      split at h
      · rename_i less
        cases h
        exact ⟨t :: before, after, by rw [e, List.cons_append], by simpa using ⟨less, above⟩, atLeast⟩
      · rename_i notLess
        cases h
        refine ⟨[], ts, rfl, by simp, fun w hw => ?_⟩
        have le : t.margin ≤ v.margin := Int.not_lt.mp notLess
        rw [e, List.mem_append, List.mem_cons] at hw
        rcases hw with hw | rfl | hw
        · exact le.trans (above w hw).le
        · exact le
        · exact le.trans (atLeast w hw)

/-- The margin and the term of a PASS (R57). -/
theorem pass_margin {p : Profile} {m : Tab 96 Bool} {occ : List Party} {c : Party} {margin : Nat}
    {term : Option TermRef} (h : check p m occ c = .pass margin term) :
    (checkTerms p occ c = [] → margin = 65535 ∧ term = none)
      ∧ (checkTerms p occ c ≠ [] → ∃ before u after, checkTerms p occ c = before ++ u :: after
        ∧ term = some u.ref ∧ (margin : Int) = min u.margin 65535
        ∧ (∀ w, w ∈ before → u.margin < w.margin) ∧ ∀ w, w ∈ after → u.margin ≤ w.margin) := by
  obtain ⟨-, -, clear, rfl, rfl⟩ := check_pass h
  refine ⟨fun empty => ?_, fun formed => ?_⟩
  · rw [(worstTerm_eq_none_iff _).mpr empty]
    exact ⟨rfl, rfl⟩
  · obtain ⟨u, worst⟩ := Option.ne_none_iff_exists'.mp (mt (worstTerm_eq_none_iff _).mp formed)
    obtain ⟨before, after, e, above, atLeast⟩ := worstTerm_spec worst
    have positive : 0 ≤ u.margin := clear u (by rw [e]; simp)
    rw [worst]
    refine ⟨before, u, after, e, rfl, ?_, above, atLeast⟩
    simp only [reportedMargin]
    omega

/-! ### The order of the terms (R54) -/

/-- One term stands before another. -/
def Term.precedes (t u : Term) : Prop := t.ref.before u.ref = true

theorem Term.precedes_of_code {t u : Term} (h : t.ref.test.code < u.ref.test.code) : t.precedes u := by
  simp [Term.precedes, TermRef.before, h]

theorem Term.precedes_of_keys {t u : Term} (h : t.ref.test = u.ref.test)
    (k : keysBefore t.ref.keys u.ref.keys = true) : t.precedes u := by
  simp [Term.precedes, TermRef.before, h, k]

theorem imTerm_ref {test : Test} {guard : Nat} {cs : List (Int × Party)} {v : Party} {t : Term}
    (h : imTerm test guard cs v = some t) :
    t.ref = ⟨test, (cs.map (·.2)).map (·.key) ++ victimKeys v⟩ := by
  simp only [imTerm] at h
  split at h
  · cases h
    rfl
  · cases h

theorem victimKeys_candidate {v : Party} (h : v.key = .candidate) : victimKeys v = [] := by
  simp [victimKeys, h]

theorem victimKeys_held {v : Party} (h : v.key ≠ .candidate) : victimKeys v = [v.key] := by
  unfold victimKeys
  split
  · exact absurd ‹_› h
  · rfl

theorem keysBefore_cons (a b : TermKey) (as bs : List TermKey) :
    keysBefore (a :: as) (b :: bs) = true ↔ a.before b = true ∨ a = b ∧ keysBefore as bs = true := by
  simp [keysBefore]

theorem TermKey.candidate_before {k : TermKey} (h : k ≠ .candidate) :
    TermKey.candidate.before k = true := by
  cases k with
  | candidate => exact absurd rfl h
  | held => rfl

/-- Carriers in ascending order of their keys. -/
def Party.lower (a b : Party) : Prop := a.key.before b.key = true

theorem lower_of_candidate {a b : Party} (ha : a.key = .candidate) (hb : b.key ≠ .candidate) :
    a.lower b := by
  rw [Party.lower, ha]
  exact TermKey.candidate_before hb

/-- Pairs of carriers, the first member slowest. -/
def lowerPair (x y : Party × Party) : Prop := x.1.lower y.1 ∨ x.1 = y.1 ∧ x.2.lower y.2

theorem keysBefore_head (k : TermKey) {as bs : List TermKey} (h : keysBefore as bs = true) :
    keysBefore (k :: as) (k :: bs) = true :=
  (keysBefore_cons _ _ _ _).mpr (.inr ⟨rfl, h⟩)

theorem keysBefore_first {a b : Party} (h : a.lower b) (as bs : List TermKey) :
    keysBefore (a.key :: as) (b.key :: bs) = true :=
  (keysBefore_cons _ _ _ _).mpr (.inl h)

/-- Keys led by those of a pair, with the same keys between its members. -/
theorem keysBefore_pair {x y : Party × Party} (h : lowerPair x y) (between as bs : List TermKey) :
    keysBefore (x.1.key :: (between ++ x.2.key :: as)) (y.1.key :: (between ++ y.2.key :: bs)) = true := by
  rcases h with h | ⟨e, h⟩
  · exact keysBefore_first h _ _
  · rw [e]
    apply keysBefore_head
    induction between with
    | nil => exact keysBefore_first h _ _
    | cons k ks ih => exact keysBefore_head k ih

/-- A pair and a third carrier, the fastest. -/
def lowerTriple (x y : Party × Party) (d e : Party) : Prop := lowerPair x y ∨ x = y ∧ d.lower e

/-- Keys led by those of a pair, with those of a third carrier behind the same keys. -/
theorem keysBefore_triple {x y : Party × Party} {d e : Party} (h : lowerTriple x y d e)
    (between : List TermKey) :
    keysBefore (x.1.key :: x.2.key :: (between ++ [d.key])) (y.1.key :: y.2.key :: (between ++ [e.key]))
      = true := by
  rcases h with h | ⟨e, h⟩
  · exact keysBefore_pair h [] _ _
  · rw [e]
    apply keysBefore_head
    apply keysBefore_head
    induction between with
    | nil => exact keysBefore_first h _ _
    | cons k ks ih => exact keysBefore_head k ih

/-- The terms formed along a list of pairs stand in order where those of two pairs in order do. -/
theorem pairwise_terms {f : Party × Party → Option Term} {l : List (Party × Party)}
    (hl : l.Pairwise lowerPair)
    (h : ∀ x y t u, x ∈ l → y ∈ l → lowerPair x y → f x = some t → f y = some u → t.precedes u) :
    (l.filterMap f).Pairwise Term.precedes :=
  List.pairwise_filterMap.mpr
    (hl.imp_of_mem fun hx hy r t ht u hu => h _ _ t u hx hy r ht hu)

section ordered

variable {p : Profile} {occ : List Party} {c : Party} (sorted : occ.Pairwise Party.lower)

include sorted

theorem pairs_pairwise : (pairs occ).Pairwise lowerPair := by
  simp only [pairs, List.pairwise_flatMap, List.pairwise_map, List.mem_map, forall_exists_index, and_imp,
    forall_apply_eq_imp_iff₂]
  exact ⟨fun a _ => sorted.imp fun h => .inr ⟨rfl, h⟩,
    sorted.imp fun h b _ d _ => .inl h⟩

theorem orderedPairs_pairwise : (orderedPairs occ).Pairwise lowerPair :=
  (pairs_pairwise sorted).filter _

/-- The terms formed along a list of pairs and a third carrier. -/
theorem pairwise_terms₃ {f : Party × Party → Party → Option Term} {l : List (Party × Party)}
    (hl : l.Pairwise lowerPair)
    (h : ∀ x y d e t u, d ∈ occ → e ∈ occ → lowerTriple x y d e → f x d = some t → f y e = some u →
      t.precedes u) :
    (l.flatMap fun x => occ.filterMap (f x)).Pairwise Term.precedes := by
  rw [List.pairwise_flatMap]
  refine ⟨fun x _ => List.pairwise_filterMap.mpr
    (sorted.imp_of_mem fun hd he r t ht u hu => h x x _ _ t u hd he (.inr ⟨rfl, r⟩) ht hu),
    hl.imp fun r t ht u hu => ?_⟩
  obtain ⟨d, hd, ht⟩ := List.mem_filterMap.mp ht
  obtain ⟨e, he, hu⟩ := List.mem_filterMap.mp hu
  exact h _ _ d e t u hd he (.inl r) ht hu

theorem spacingTerms_pairwise : (spacingTerms p occ c).Pairwise Term.precedes := by
  refine List.pairwise_filterMap.mpr (sorted.imp fun r t ht u hu => ?_)
  simp only [spacingTerm, Option.ite_none_right_eq_some] at ht hu
  obtain ⟨-, ht⟩ := ht
  obtain ⟨-, hu⟩ := hu
  cases ht
  cases hu
  exact Term.precedes_of_keys rfl (keysBefore_first r _ _)

/-- Products of a pair that meet the candidate stand in the order of the pairs. -/
theorem metPairs_pairwise (test : Test) (guard : Nat) (f g : Int) :
    ((pairs occ).filterMap fun x => imTerm test guard [(f, x.1), (g, x.2)] c).Pairwise Term.precedes := by
  refine pairwise_terms (pairs_pairwise sorted) fun x y t u _ _ r ht hu => ?_
  refine Term.precedes_of_keys (by rw [imTerm_ref ht, imTerm_ref hu]) ?_
  rw [imTerm_ref ht, imTerm_ref hu]
  exact keysBefore_pair r [] _ _

theorem im5VTerms_pairwise : (im5VTerms p occ c).Pairwise Term.precedes := by
  unfold im5VTerms
  split
  · exact metPairs_pairwise sorted _ _ _ _
  · exact .nil

variable (hc : c.key = .candidate)

include hc

theorem im33VTerms_pairwise : (im33VTerms p occ c).Pairwise Term.precedes := by
  refine pairwise_terms₃ sorted (orderedPairs_pairwise sorted) fun x y d e t u _ _ r ht hu => ?_
  refine Term.precedes_of_keys (by rw [imTerm_ref ht, imTerm_ref hu]) ?_
  rw [imTerm_ref ht, imTerm_ref hu, victimKeys_candidate hc]
  exact keysBefore_triple r []

variable (held : ∀ o, o ∈ occ → o.key ≠ .candidate)

include held

/-- The two products of the candidate and one other carrier: those written with the candidate first stand
ahead of those written with it second. -/
theorem formedPairs_pairwise (test : Test) (guard : Nat) (f g f' g' : Int) :
    (((pairs occ).filterMap fun x => imTerm test guard [(f, c), (g, x.1)] x.2)
      ++ (pairs occ).filterMap fun x => imTerm test guard [(f', x.1), (g', c)] x.2).Pairwise
        Term.precedes := by
  have keys : ∀ {cs : List (Int × Party)} {x : Party × Party} {t : Term}, x ∈ pairs occ →
      imTerm test guard cs x.2 = some t →
      t.ref = ⟨test, (cs.map (·.2)).map (·.key) ++ [x.2.key]⟩ := by
    intro cs x t hx ht
    rw [imTerm_ref ht, victimKeys_held (held _ ((mem_pairs occ x.1 x.2).mp hx).2)]
  refine List.pairwise_append.mpr ⟨?_, ?_, fun t ht u hu => ?_⟩
  · refine pairwise_terms (pairs_pairwise sorted) fun x y t u hx hy r ht hu => ?_
    refine Term.precedes_of_keys (by rw [keys hx ht, keys hy hu]) ?_
    rw [keys hx ht, keys hy hu]
    exact keysBefore_head c.key (keysBefore_pair r [] _ _)
  · refine pairwise_terms (pairs_pairwise sorted) fun x y t u hx hy r ht hu => ?_
    refine Term.precedes_of_keys (by rw [keys hx ht, keys hy hu]) ?_
    rw [keys hx ht, keys hy hu]
    exact keysBefore_pair r [c.key] _ _
  · obtain ⟨x, hx, ht⟩ := List.mem_filterMap.mp ht
    obtain ⟨y, hy, hu⟩ := List.mem_filterMap.mp hu
    refine Term.precedes_of_keys (by rw [keys hx ht, keys hy hu]) ?_
    rw [keys hx ht, keys hy hu]
    refine (keysBefore_cons _ _ _ _).mpr (.inl ?_)
    exact lower_of_candidate hc (held _ ((mem_pairs occ y.1 y.2).mp hy).1)

theorem im5CTerms_pairwise : (im5CTerms p occ c).Pairwise Term.precedes := by
  unfold im5CTerms
  split
  · exact formedPairs_pairwise sorted hc held _ _ _ _ _ _
  · exact .nil

theorem im33CTerms_pairwise : (im33CTerms p occ c).Pairwise Term.precedes := by
  have keys : ∀ {cs : List (Int × Party)} {v : Party} {t : Term}, v ∈ occ →
      imTerm .im33C p.g3 cs v = some t →
      t.ref = ⟨.im33C, (cs.map (·.2)).map (·.key) ++ [v.key]⟩ := by
    intro cs v t hv ht
    rw [imTerm_ref ht, victimKeys_held (held _ hv)]
  refine List.pairwise_append.mpr ⟨?_, ?_, fun t ht u hu => ?_⟩
  · refine pairwise_terms₃ sorted (pairs_pairwise sorted) fun x y d e t u hd he r ht hu => ?_
    refine Term.precedes_of_keys (by rw [keys hd ht, keys he hu]) ?_
    rw [keys hd ht, keys he hu]
    exact keysBefore_head c.key (keysBefore_triple r [])
  · refine pairwise_terms₃ sorted (orderedPairs_pairwise sorted) fun x y d e t u hd he r ht hu => ?_
    refine Term.precedes_of_keys (by rw [keys hd ht, keys he hu]) ?_
    rw [keys hd ht, keys he hu]
    exact keysBefore_triple r [c.key]
  · obtain ⟨x, hx, ht⟩ := List.mem_flatMap.mp ht
    obtain ⟨d, hd, ht⟩ := List.mem_filterMap.mp ht
    obtain ⟨y, hy, hu⟩ := List.mem_flatMap.mp hu
    obtain ⟨e, he, hu⟩ := List.mem_filterMap.mp hu
    refine Term.precedes_of_keys (by rw [keys hd ht, keys he hu]) ?_
    rw [keys hd ht, keys he hu]
    refine (keysBefore_cons _ _ _ _).mpr (.inl ?_)
    exact lower_of_candidate hc (held _ ((mem_orderedPairs occ y.1 y.2).mp hy).1.1)

end ordered

/-! ### The test of a term -/

/-- Every term of a list is one of test `test`. -/
def AllOf (test : Test) (ts : List Term) : Prop := ∀ t, t ∈ ts → t.ref.test = test

theorem allOf_imTerms {α : Type} (test : Test) (guard : Nat) (cs : α → List (Int × Party)) (v : α → Party)
    (l : List α) : AllOf test (l.filterMap fun x => imTerm test guard (cs x) (v x)) := by
  intro t ht
  obtain ⟨x, -, e⟩ := List.mem_filterMap.mp ht
  rw [imTerm_ref e]

theorem AllOf.append {test : Test} {ts us : List Term} (a : AllOf test ts) (b : AllOf test us) :
    AllOf test (ts ++ us) := fun t ht => (List.mem_append.mp ht).elim (a t) (b t)

theorem AllOf.flatMap {α : Type} {test : Test} {f : α → List Term} {l : List α}
    (h : ∀ x, AllOf test (f x)) : AllOf test (l.flatMap f) := by
  intro t ht
  obtain ⟨x, -, m⟩ := List.mem_flatMap.mp ht
  exact h x t m

theorem AllOf.ite {test : Test} {ts : List Term} {b : Bool} (h : AllOf test ts) :
    AllOf test (if b then ts else []) := by
  split
  · exact h
  · exact fun _ m => by cases m

theorem allOf_spacingTerms (p : Profile) (occ : List Party) (c : Party) :
    AllOf .spacing (spacingTerms p occ c) := by
  intro t ht
  obtain ⟨o, -, e⟩ := List.mem_filterMap.mp ht
  simp only [spacingTerm, Option.ite_none_right_eq_some] at e
  obtain ⟨-, e⟩ := e
  cases e
  rfl

theorem allOf_im32VTerms (p : Profile) (occ : List Party) (c : Party) :
    AllOf .im32V (im32VTerms p occ c) := allOf_imTerms _ _ _ (fun _ => c) _

theorem allOf_im33VTerms (p : Profile) (occ : List Party) (c : Party) :
    AllOf .im33V (im33VTerms p occ c) := .flatMap fun _ => allOf_imTerms _ _ _ (fun _ => c) _

theorem allOf_im5VTerms (p : Profile) (occ : List Party) (c : Party) :
    AllOf .im5V (im5VTerms p occ c) := .ite (allOf_imTerms _ _ _ (fun _ => c) _)

theorem allOf_im32CTerms (p : Profile) (occ : List Party) (c : Party) :
    AllOf .im32C (im32CTerms p occ c) :=
  .append (allOf_imTerms _ _ _ Prod.snd _) (allOf_imTerms _ _ _ Prod.snd _)

theorem allOf_im33CTerms (p : Profile) (occ : List Party) (c : Party) :
    AllOf .im33C (im33CTerms p occ c) :=
  .append (.flatMap fun _ => allOf_imTerms _ _ _ id _) (.flatMap fun _ => allOf_imTerms _ _ _ id _)

theorem allOf_im5CTerms (p : Profile) (occ : List Party) (c : Party) :
    AllOf .im5C (im5CTerms p occ c) :=
  .ite (.append (allOf_imTerms _ _ _ Prod.snd _) (allOf_imTerms _ _ _ Prod.snd _))

/-- Terms in order, all of tests up to `n`, ahead of terms in order of a later test. -/
theorem pairwise_append_test {ts us : List Term} {n : Nat} {test : Test}
    (ht : ts.Pairwise Term.precedes) (hn : ∀ t, t ∈ ts → t.ref.test.code ≤ n)
    (hu : us.Pairwise Term.precedes) (hus : AllOf test us) (lt : n < test.code) :
    (ts ++ us).Pairwise Term.precedes ∧ ∀ t, t ∈ ts ++ us → t.ref.test.code ≤ test.code := by
  refine ⟨List.pairwise_append.mpr ⟨ht, hu, fun t mt u mu => Term.precedes_of_code ?_⟩, fun t m => ?_⟩
  · rw [hus u mu]
    exact Nat.lt_of_le_of_lt (hn t mt) lt
  · rcases List.mem_append.mp m with m | m
    · exact (hn t m).trans lt.le
    · exact (congrArg Test.code (hus t m)).le

/-- The terms of a check stand in the order of R54. -/
theorem checkTerms_pairwise {p : Profile} {occ : List Party} {c : Party} (hc : c.key = .candidate)
    (held : ∀ o, o ∈ occ → o.key ≠ .candidate) (sorted : occ.Pairwise Party.lower) :
    (checkTerms p occ c).Pairwise Term.precedes := by
  have spacing : ∀ t, t ∈ spacingTerms p occ c → t.ref.test.code ≤ 3 :=
    fun t m => (congrArg Test.code (allOf_spacingTerms p occ c t m)).le
  obtain ⟨a, ha⟩ := pairwise_append_test (spacingTerms_pairwise sorted) spacing
    (metPairs_pairwise sorted .im32V p.g3 2 (-1)) (allOf_im32VTerms p occ c) (by decide)
  obtain ⟨b, hb⟩ := pairwise_append_test a ha (im33VTerms_pairwise (p := p) sorted hc)
    (allOf_im33VTerms p occ c) (by decide)
  obtain ⟨d, hd⟩ := pairwise_append_test b hb (im5VTerms_pairwise (p := p) sorted)
    (allOf_im5VTerms p occ c) (by decide)
  obtain ⟨e, he⟩ := pairwise_append_test d hd (formedPairs_pairwise sorted hc held .im32C p.g3 2 (-1) 2 (-1))
    (allOf_im32CTerms p occ c) (by decide)
  obtain ⟨f, hf⟩ := pairwise_append_test e he (im33CTerms_pairwise (p := p) sorted hc held)
    (allOf_im33CTerms p occ c) (by decide)
  obtain ⟨g, -⟩ := pairwise_append_test f hf (im5CTerms_pairwise (p := p) sorted hc held)
    (allOf_im5CTerms p occ c) (by decide)
  unfold checkTerms
  split
  · rw [← List.append_assoc, ← List.append_assoc]
    exact g
  · rw [List.append_nil]
    exact d

/-- Settles O31: the tests of a check one by one, its first failing term, its worst term, and the order in
which the terms are formed. -/
theorem passMeansClear : Obligations.PassMeansClear := by
  intro p m occ c
  refine ⟨check_eq_pass_iff p m occ c, fun e f => ?_, fun k => ?_, fun r => ?_, fun _ _ => pass_margin,
    checkTerms_pairwise⟩
  · rw [check_eq_fail_iff, spanFault_eq_some_iff, blockedFault, termFault_eq_some_iff]
    simp [and_assoc]
  · rw [check_eq_fail_iff, spanFault_eq_some_iff, blockedFault, termFault_eq_some_iff]
    simp [firstBlocked_eq_some_iff]
  · rw [check_eq_fail_iff, spanFault_eq_some_iff, blockedFault, termFault_eq_some_iff]
    simp [eq_comm]

end Sys2Proof.Machine
end

section
/-! R64: the occupied set stays protected where carriers only leave it, and where a check that passed has
granted one. -/

namespace Sys2Proof.Machine

open Sys2Proof

/-! ### Carriers alike (R20, R64) -/

/-- Every carrier of one list has one alike in another. -/
def Covers (occ occ' : List Party) : Prop := ∀ a, a ∈ occ' → ∃ b, b ∈ occ ∧ a.alike b

theorem Party.alike_refl (a : Party) : a.alike a := ⟨rfl, rfl, rfl, rfl, rfl⟩

theorem Party.alike.trans {a b c : Party} (x : a.alike b) (y : b.alike c) : a.alike c :=
  ⟨x.1.trans y.1, x.2.1.trans y.2.1, x.2.2.1.trans y.2.2.1, x.2.2.2.1.trans y.2.2.2.1,
    x.2.2.2.2.trans y.2.2.2.2⟩

theorem Covers.refl (occ : List Party) : Covers occ occ := fun a ha => ⟨a, ha, a.alike_refl⟩

theorem Covers.trans {x y z : List Party} (a : Covers x y) (b : Covers y z) : Covers x z := by
  intro c hc
  obtain ⟨d, hd, alike⟩ := b c hc
  obtain ⟨e, he, alike'⟩ := a d hd
  exact ⟨e, he, alike.trans alike'⟩

/-- A carrier is another one under its own key. -/
theorem Party.alike.eq {a b : Party} (h : a.alike b) : a = { b with key := a.key } := by
  obtain ⟨link, step, half, contributes, zones⟩ := h
  cases a
  cases b
  simp_all

theorem Profile.apart_of_alike {p : Profile} {a b a' b' : Party} (ha : a.alike a') (hb : b.alike b')
    (h : p.apart a' b') : p.apart a b := by
  rw [ha.eq, hb.eq]
  exact h

theorem productClear_two {guard : Nat} {f g : Int} {a b v : Party} :
    productClear guard [(f, a), (g, b)] v ↔ (linksDiffer [a, b, v] = true → shareZone [a, b, v] = true →
      a.contributes = true → b.contributes = true →
      (v.half : Int) + productWidth [(f, a), (g, b)] + guard
        ≤ ((v.step : Int) - product [(f, a), (g, b)]).natAbs) := by
  simp [productClear]

theorem productClear_three {guard : Nat} {f g k : Int} {a b d v : Party} :
    productClear guard [(f, a), (g, b), (k, d)] v ↔ (linksDiffer [a, b, d, v] = true →
      shareZone [a, b, d, v] = true → a.contributes = true → b.contributes = true →
      d.contributes = true →
      (v.half : Int) + productWidth [(f, a), (g, b), (k, d)] + guard
        ≤ ((v.step : Int) - product [(f, a), (g, b), (k, d)]).natAbs) := by
  simp [productClear]

theorem productClear_two_of_alike {guard : Nat} {f g : Int} {a b v a' b' v' : Party} (ha : a.alike a')
    (hb : b.alike b') (hv : v.alike v') (h : productClear guard [(f, a'), (g, b')] v') :
    productClear guard [(f, a), (g, b)] v := by
  rw [productClear_two] at h ⊢
  rw [ha.eq, hb.eq, hv.eq]
  exact h

theorem productClear_three_of_alike {guard : Nat} {f g k : Int} {a b d v a' b' d' v' : Party}
    (ha : a.alike a') (hb : b.alike b') (hd : d.alike d') (hv : v.alike v')
    (h : productClear guard [(f, a'), (g, b'), (k, d')] v') :
    productClear guard [(f, a), (g, b), (k, d)] v := by
  rw [productClear_three] at h ⊢
  rw [ha.eq, hb.eq, hd.eq, hv.eq]
  exact h

theorem Profile.imClear_of_alike {p : Profile} {a b d v a' b' d' v' : Party} (ha : a.alike a')
    (hb : b.alike b') (hd : d.alike d') (hv : v.alike v') (h : p.imClear a' b' d' v') :
    p.imClear a b d v :=
  ⟨productClear_two_of_alike ha hb hv h.1, productClear_three_of_alike ha hb hd hv h.2.1,
    fun on => productClear_two_of_alike ha hb hv (h.2.2 on)⟩

theorem Engine.inBounds_of_alike {e : Engine} {a b : Party} (h : a.alike b) (hb : e.inBounds b) :
    e.inBounds a := by
  rw [h.eq]
  exact hb

/-! ### Carriers that leave (R64) -/

/-- The three properties of R64, of a list of carriers. -/
structure Guarded (e : Engine) (occ : List Party) : Prop where
  apart : ∀ a b, a ∈ occ → b ∈ occ → e.prof.apart a b
  products : ∀ a b d v, a ∈ occ → b ∈ occ → d ∈ occ → v ∈ occ → e.prof.imClear a b d v
  bounds : ∀ a, a ∈ occ → e.inBounds a

theorem State.protectedSet_iff (s : State) : s.protectedSet ↔ Guarded s.engine s.occupied :=
  ⟨fun ⟨a, b, c⟩ => ⟨a, b, c⟩, fun ⟨a, b, c⟩ => ⟨a, b, c⟩⟩

/-- Carriers covered by protected ones are protected. -/
theorem Guarded.of_covers {e : Engine} {occ occ' : List Party} (h : Guarded e occ)
    (c : Covers occ occ') : Guarded e occ' := by
  refine ⟨fun a b ha hb => ?_, fun a b d v ha hb hd hv => ?_, fun a ha => ?_⟩
  · obtain ⟨a', ha', xa⟩ := c a ha
    obtain ⟨b', hb', xb⟩ := c b hb
    exact Profile.apart_of_alike xa xb (h.apart a' b' ha' hb')
  · obtain ⟨a', ha', xa⟩ := c a ha
    obtain ⟨b', hb', xb⟩ := c b hb
    obtain ⟨d', hd', xd⟩ := c d hd
    obtain ⟨v', hv', xv⟩ := c v hv
    exact Profile.imClear_of_alike xa xb xd xv (h.products a' b' d' v' ha' hb' hd' hv')
  · obtain ⟨a', ha', xa⟩ := c a ha
    exact Engine.inBounds_of_alike xa (h.bounds a' ha')

/-- The properties rest on the profile and on which channels are blocked. -/
theorem Guarded.of_engine {e e' : Engine} {occ : List Party} (h : Guarded e occ)
    (profile : e'.profile = e.profile) (bounds : ∀ a, a ∈ occ → e.inBounds a → e'.inBounds a) :
    Guarded e' occ := by
  have prof : e'.prof = e.prof := by rw [Engine.prof, profile, Engine.prof]
  refine ⟨?_, ?_, fun a ha => bounds a ha (h.bounds a ha)⟩
  · rw [prof]
    exact h.apart
  · rw [prof]
    exact h.products

/-! ### A granted carrier (R64) -/

/-- Contributors added to each other may be written in either order. -/
theorem productClear_swap {guard : Nat} {k : Int} {a b d v : Party}
    (h : productClear guard [(1, a), (1, b), (k, d)] v) :
    productClear guard [(1, b), (1, a), (k, d)] v := by
  rw [productClear_three] at h ⊢
  intro links zones cb ca cd
  have links' : linksDiffer [a, b, d, v] = true := by
    simp only [linksDiffer, List.all_cons, List.all_nil, Bool.and_eq_true, bne_iff_ne, ne_eq] at links ⊢
    tauto
  have zones' : shareZone [a, b, d, v] = true := by
    simp only [shareZone, List.foldl_cons, List.foldl_nil] at zones ⊢
    rwa [BitVec.and_assoc (~~~0) a.zones, BitVec.and_comm a.zones, ← BitVec.and_assoc]
  have := h links' zones' ca cb cd
  simp only [productWidth, product, List.foldl_cons, List.foldl_nil] at this ⊢
  omega

theorem Profile.apart_symm {p : Profile} {a b : Party} (h : p.apart a b) : p.apart b a := by
  intro links zones
  have links' : linksDiffer [a, b] = true := by
    simp only [linksDiffer, List.all_cons, List.all_nil, Bool.and_true, bne_iff_ne] at links ⊢
    exact links.symm
  have zones' : shareZone [a, b] = true := by
    simp only [shareZone, List.foldl_cons, List.foldl_nil] at zones ⊢
    rwa [BitVec.and_assoc, BitVec.and_comm a.zones, ← BitVec.and_assoc]
  have := h links' zones'
  omega

/-- Members of the occupied set of different links stand in one order or the other. -/
theorem before_or_before {a b : Party} {h g o u : Nat} (ha : a.key = .held h o) (la : a.link = some h)
    (hb : b.key = .held g u) (lb : b.link = some g) (ne : a.link ≠ b.link) :
    a.key.before b.key = true ∨ b.key.before a.key = true := by
  have : h ≠ g := fun e => ne (by rw [la, lb, e])
  rw [ha, hb]
  simp only [TermKey.before, decide_eq_true_eq]
  omega

/-- A list of members of an occupied set: each held under a key of its own link (R20). -/
def HeldKeys (occ : List Party) : Prop := ∀ b, b ∈ occ → ∃ h o, b.key = .held h o ∧ b.link = some h

/-- The candidate stands clear of the products of two carriers of a list that it meets or forms. -/
structure TwoClear (guard : Nat) (f g : Int) (occ : List Party) (c : Party) : Prop where
  first : ∀ b v, b ∈ occ → v ∈ occ → productClear guard [(f, c), (g, b)] v
  second : ∀ a v, a ∈ occ → v ∈ occ → productClear guard [(f, a), (g, c)] v
  victim : ∀ a b, a ∈ occ → b ∈ occ → productClear guard [(f, a), (g, b)] c

/-- The same of the products of three carriers. -/
structure ThreeClear (guard : Nat) (occ : List Party) (c : Party) : Prop where
  first : ∀ b d v, b ∈ occ → d ∈ occ → v ∈ occ → productClear guard [(1, c), (1, b), (-1, d)] v
  third : ∀ a b v, a ∈ occ → b ∈ occ → v ∈ occ → productClear guard [(1, a), (1, b), (-1, c)] v
  victim : ∀ a b d, a ∈ occ → b ∈ occ → d ∈ occ → productClear guard [(1, a), (1, b), (-1, d)] c

/-- A candidate that no member of a list stands in the way of, in whatever order they are taken. -/
structure Fits (p : Profile) (occ : List Party) (c : Party) : Prop where
  apart : ∀ o, o ∈ occ → p.apart c o
  two : TwoClear p.g3 2 (-1) occ c
  three : ThreeClear p.g3 occ c
  five : p.im5 = true → TwoClear p.g5 3 (-2) occ c

/-- What holds of two added contributors in ascending order holds of them in either (R51, R52). -/
theorem productClear_unordered {occ : List Party} (keys : HeldKeys occ) {guard : Nat} {d v : Party}
    (h : ∀ a b, a ∈ occ → b ∈ occ → a.key.before b.key = true →
      productClear guard [(1, a), (1, b), (-1, d)] v) {a b : Party} (ha : a ∈ occ) (hb : b ∈ occ) :
    productClear guard [(1, a), (1, b), (-1, d)] v := by
  obtain ⟨g, o, ka, la⟩ := keys a ha
  obtain ⟨g', o', kb, lb⟩ := keys b hb
  by_cases same : a.link = b.link
  · intro links
    simp [linksDiffer, same] at links
  · rcases before_or_before ka la kb lb same with lt | lt
    · exact h a b ha hb lt
    · exact productClear_swap (h b a hb ha lt)

theorem Fits.of_termsClear {p : Profile} {occ : List Party} {c : Party} (keys : HeldKeys occ)
    (h : p.termsClear occ c) : Fits p occ c := by
  obtain ⟨apart, twoV, threeV, twoC, threeC, threeC', five⟩ := h
  refine ⟨apart, ⟨fun b v hb hv => (twoC b v hb hv).1, fun a v ha hv => (twoC a v ha hv).2, twoV⟩,
    ⟨threeC, fun a b v ha hb hv => ?_, fun a b d ha hb hd => ?_⟩, fun on => ⟨fun b v hb hv => ?_,
      fun a v ha hv => ?_, fun a b ha hb => (five on a b ha hb).1⟩⟩
  · exact productClear_unordered keys (fun a b ha hb => threeC' a b v ha hb hv) ha hb
  · exact productClear_unordered keys (fun a b ha hb => threeV a b d ha hb hd) ha hb
  · exact (five on b v hb hv).2.1
  · exact (five on a v ha hv).2.2

theorem TwoClear.of_covers {guard : Nat} {f g : Int} {occ occ' : List Party} {c : Party}
    (h : TwoClear guard f g occ c) (cov : Covers occ occ') : TwoClear guard f g occ' c := by
  refine ⟨fun b v hb hv => ?_, fun a v ha hv => ?_, fun a b ha hb => ?_⟩
  · obtain ⟨b', hb', xb⟩ := cov b hb
    obtain ⟨v', hv', xv⟩ := cov v hv
    exact productClear_two_of_alike c.alike_refl xb xv (h.first b' v' hb' hv')
  · obtain ⟨a', ha', xa⟩ := cov a ha
    obtain ⟨v', hv', xv⟩ := cov v hv
    exact productClear_two_of_alike xa c.alike_refl xv (h.second a' v' ha' hv')
  · obtain ⟨a', ha', xa⟩ := cov a ha
    obtain ⟨b', hb', xb⟩ := cov b hb
    exact productClear_two_of_alike xa xb c.alike_refl (h.victim a' b' ha' hb')

theorem ThreeClear.of_covers {guard : Nat} {occ occ' : List Party} {c : Party}
    (h : ThreeClear guard occ c) (cov : Covers occ occ') : ThreeClear guard occ' c := by
  refine ⟨fun b d v hb hd hv => ?_, fun a b v ha hb hv => ?_, fun a b d ha hb hd => ?_⟩
  · obtain ⟨b', hb', xb⟩ := cov b hb
    obtain ⟨d', hd', xd⟩ := cov d hd
    obtain ⟨v', hv', xv⟩ := cov v hv
    exact productClear_three_of_alike c.alike_refl xb xd xv (h.first b' d' v' hb' hd' hv')
  · obtain ⟨a', ha', xa⟩ := cov a ha
    obtain ⟨b', hb', xb⟩ := cov b hb
    obtain ⟨v', hv', xv⟩ := cov v hv
    exact productClear_three_of_alike xa xb c.alike_refl xv (h.third a' b' v' ha' hb' hv')
  · obtain ⟨a', ha', xa⟩ := cov a ha
    obtain ⟨b', hb', xb⟩ := cov b hb
    obtain ⟨d', hd', xd⟩ := cov d hd
    exact productClear_three_of_alike xa xb xd c.alike_refl (h.victim a' b' d' ha' hb' hd')

theorem Fits.of_covers {p : Profile} {occ occ' : List Party} {c : Party} (h : Fits p occ c)
    (cov : Covers occ occ') : Fits p occ' c := by
  refine ⟨fun o ho => ?_, h.two.of_covers cov, h.three.of_covers cov, fun on => (h.five on).of_covers cov⟩
  obtain ⟨o', ho', x⟩ := cov o ho
  exact Profile.apart_of_alike c.alike_refl x (h.apart o' ho')

/-- The products of two carriers once the candidate has joined: the candidate stands in one place at most,
since contributors and victim are of different links (R47). -/
theorem TwoClear.joined {guard : Nat} {f g : Int} {occ : List Party} {c : Party}
    (h : TwoClear guard f g occ c)
    (old : ∀ a b v, a ∈ occ → b ∈ occ → v ∈ occ → productClear guard [(f, a), (g, b)] v)
    {a b v : Party} (ha : a = c ∨ a ∈ occ) (hb : b = c ∨ b ∈ occ) (hv : v = c ∨ v ∈ occ) :
    productClear guard [(f, a), (g, b)] v := by
  have twice : ∀ {x y z : Party}, x.link = y.link ∨ x.link = z.link ∨ y.link = z.link →
      productClear guard [(f, x), (g, y)] z := by
    intro x y z same links
    simp only [List.map_cons, List.map_nil, List.cons_append, List.nil_append, linksDiffer, List.all_cons,
      List.all_nil, Bool.and_eq_true, bne_iff_ne] at links
    rcases same with same | same | same <;> simp [same] at links
  rcases ha with rfl | ha
  · rcases hb with rfl | hb
    · exact twice (.inl rfl)
    · rcases hv with rfl | hv
      · exact twice (.inr (.inl rfl))
      · exact h.first b v hb hv
  · rcases hb with rfl | hb
    · rcases hv with rfl | hv
      · exact twice (.inr (.inr rfl))
      · exact h.second a v ha hv
    · rcases hv with rfl | hv
      · exact h.victim a b ha hb
      · exact old a b v ha hb hv

/-- The products of three carriers once the candidate has joined. -/
theorem ThreeClear.joined {guard : Nat} {occ : List Party} {c : Party} (h : ThreeClear guard occ c)
    (old : ∀ a b d v, a ∈ occ → b ∈ occ → d ∈ occ → v ∈ occ →
      productClear guard [(1, a), (1, b), (-1, d)] v)
    {a b d v : Party} (ha : a = c ∨ a ∈ occ) (hb : b = c ∨ b ∈ occ) (hd : d = c ∨ d ∈ occ)
    (hv : v = c ∨ v ∈ occ) : productClear guard [(1, a), (1, b), (-1, d)] v := by
  intro links
  have apart := links
  simp only [List.map_cons, List.map_nil, List.cons_append, List.nil_append, linksDiffer, List.all_cons,
    List.all_nil, Bool.and_true, Bool.and_eq_true, bne_iff_ne] at apart
  obtain ⟨⟨ab, ad, av⟩, ⟨bd, bv⟩, dv⟩ := apart
  have other : ∀ {x y : Party}, x = c → y.link ≠ x.link → y = c ∨ y ∈ occ → y ∈ occ :=
    fun hx ne hy => hy.resolve_left fun e => ne (by rw [e, hx])
  rcases ha with hc | ha
  · subst hc
    exact h.first b d v (other rfl ab hb) (other rfl ad hd) (other rfl av hv) links
  · rcases hb with hc | hb
    · subst hc
      exact productClear_swap (h.first a d v ha (other rfl bd hd) (other rfl bv hv)) links
    · rcases hd with hc | hd
      · subst hc
        exact h.third a b v ha hb (other rfl dv hv) links
      · rcases hv with hc | hv
        · subst hc
          exact h.victim a b d ha hb hd links
        · exact old a b d v ha hb hd hv links

/-- A candidate that fits may join protected carriers (R64). -/
theorem Guarded.granted {e : Engine} {occ occ' : List Party} {c : Party} (h : Guarded e occ)
    (fits : Fits e.prof occ c) (inside : e.inBounds c)
    (joined : ∀ a, a ∈ occ' → ∃ b, (b = c ∨ b ∈ occ) ∧ a.alike b) : Guarded e occ' := by
  refine ⟨fun a b ha hb => ?_, fun a b d v ha hb hd hv => ?_, fun a ha => ?_⟩
  · obtain ⟨a', ha', xa⟩ := joined a ha
    obtain ⟨b', hb', xb⟩ := joined b hb
    refine Profile.apart_of_alike xa xb ?_
    rcases ha' with rfl | ha'
    · rcases hb' with rfl | hb'
      · intro links
        simp [linksDiffer] at links
      · exact fits.apart b' hb'
    · rcases hb' with rfl | hb'
      · exact Profile.apart_symm (fits.apart a' ha')
      · exact h.apart a' b' ha' hb'
  · obtain ⟨a', ha', xa⟩ := joined a ha
    obtain ⟨b', hb', xb⟩ := joined b hb
    obtain ⟨d', hd', xd⟩ := joined d hd
    obtain ⟨v', hv', xv⟩ := joined v hv
    refine Profile.imClear_of_alike xa xb xd xv ⟨?_, ?_, fun on => ?_⟩
    · exact fits.two.joined (fun a b v ha hb hv => (h.products a b b v ha hb hb hv).1) ha' hb' hv'
    · exact fits.three.joined (fun a b d v ha hb hd hv => (h.products a b d v ha hb hd hv).2.1) ha' hb' hd' hv'
    · exact (fits.five on).joined (fun a b v ha hb hv => (h.products a b b v ha hb hb hv).2.2 on) ha' hb' hv'
  · obtain ⟨a', ha', xa⟩ := joined a ha
    refine Engine.inBounds_of_alike xa ?_
    rcases ha' with rfl | ha'
    · exact inside
    · exact h.bounds a' ha'

/-- What a check that passes has found of its candidate (R48 to R55). -/
theorem fits_of_check {e : Engine} {occ : List Party} {c : Party} {margin : Nat} {term : Option TermRef}
    (keys : HeldKeys occ) (h : check e.prof e.blocked occ c = .pass margin term) :
    Fits e.prof occ c ∧ e.inBounds c := by
  obtain ⟨span, blocked, -⟩ := check_pass h
  obtain ⟨-, -, clear⟩ := (check_eq_pass_iff _ _ _ _).mp ⟨margin, term, h⟩
  exact ⟨.of_termsClear keys clear, span, blocked⟩

end Sys2Proof.Machine
end

section
/-! What keeps R64: records that yield carriers, jobs that fit their links, and the running job's occupied
set. -/

namespace Sys2Proof.Machine

open Sys2Proof

/-! ### Records (R19, R39, R59) -/

/-- A record holds a carrier on a step. -/
def Link.holds (l : Link) (f : Nat) : Prop :=
  l.state.occupied = true ∧ l.carrier = some f ∨ l.state.holdsTarget = true ∧ l.target = some f

theorem Link.holds_iff (l : Link) (f : Nat) : l.holds f ↔ ∃ o, (o, f) ∈ l.held := by
  simp [Link.holds, Link.held, Link.heldCarrier, Link.heldTarget, exists_or]

/-- A link in ACTIVE or REFERRED names no target. -/
def Link.plain (l : Link) : Prop := l.state = .active ∨ l.state = .referred → l.target = none

/-- A record waits for a job: CHECKING or RECHECK, with the class and, but for a MOVE, the zones of the job; a
MOVE's candidate is the carrier. -/
def Link.awaits (l : Link) (j : Job) : Prop :=
  l.cls.getD 0 = j.cls
    ∧ (l.state = .checking ∧ j.zones = l.zones
      ∨ l.state = .recheck
        ∧ (if l.job = some .move then j.step.isSome = true ∧ ∀ f, l.carrier = some f → j.step = some f
          else j.zones = l.zones))

theorem State.jobFits_iff (s : State) (j : Job) :
    s.jobFits j ↔ j.handle < 160 ∧ (s.link j.handle).awaits j := Iff.rfl

theorem Link.awaits.state {l : Link} {j : Job} (h : l.awaits j) :
    l.state = .checking ∨ l.state = .recheck := h.2.imp And.left And.left

/-- Record `m` holds no carrier that `l` does not hold, under the class and zones of `l`. -/
structure Link.Eases (l m : Link) : Prop where
  plain : m.plain
  holds : ∀ f, m.holds f → l.holds f ∧ m.cls.getD 0 = l.cls.getD 0 ∧ m.zones = l.zones

/-- Record `l` may become `m` without a check: no carrier is taken up, and no job loses its link. -/
structure Link.Yields (l m : Link) : Prop where
  eases : l.plain → l.Eases m
  awaits : ∀ j, l.awaits j → m.awaits j

theorem Link.Eases.refl {l : Link} (h : l.plain) : l.Eases l := ⟨h, fun _ hf => ⟨hf, rfl, rfl⟩⟩

theorem Link.Eases.trans {l m n : Link} (a : l.Eases m) (b : m.Eases n) : l.Eases n := by
  refine ⟨b.plain, fun f hf => ?_⟩
  obtain ⟨hm, cls, zones⟩ := b.holds f hf
  obtain ⟨hl, cls', zones'⟩ := a.holds f hm
  exact ⟨hl, cls.trans cls', zones.trans zones'⟩

theorem Link.Yields.refl (l : Link) : l.Yields l := ⟨.refl, fun _ h => h⟩

theorem Link.Yields.trans {l m n : Link} (a : l.Yields m) (b : m.Yields n) : l.Yields n :=
  ⟨fun h => (a.eases h).trans (b.eases (a.eases h).plain), fun j h => b.awaits j (a.awaits j h)⟩

/-- The fields of a record that R64 rests on: it has no other. -/
def Link.bearing (l : Link) : Link :=
  { Link.free with
    state := l.state, cls := l.cls, zones := l.zones, carrier := l.carrier, target := l.target
    job := l.job }

theorem Link.yields_of_bearing {l m : Link} (h : m.bearing = l.bearing) : l.Yields m := by
  have holds : ∀ f, m.holds f ↔ l.holds f := fun f => show m.bearing.holds f ↔ l.bearing.holds f by rw [h]
  have plain : m.plain ↔ l.plain := show m.bearing.plain ↔ l.bearing.plain by rw [h]
  have awaits : ∀ j, m.awaits j ↔ l.awaits j :=
    fun j => show m.bearing.awaits j ↔ l.bearing.awaits j by rw [h]
  have cls : m.cls = l.cls := (congrArg Link.cls h :)
  have zones : m.zones = l.zones := (congrArg Link.zones h :)
  exact ⟨fun p => ⟨plain.mpr p, fun f hf => ⟨(holds f).mp hf, by rw [cls], zones⟩⟩,
    fun j => (awaits j).mpr⟩

theorem Link.bearing_of_lasting {l m : Link} (h : m.lasting = l.lasting) : m.bearing = l.bearing :=
  (congrArg Link.bearing h :)

theorem Link.eases_free (l : Link) : l.Eases Link.free :=
  ⟨fun _ => rfl, fun f hf => absurd hf (by simp [Link.holds, Link.free])⟩

/-- A record in which no job is waited for may change state, order and timer, and drop carriers. -/
theorem Link.yields_of_eases {l m : Link} (checking : l.state ≠ .checking) (recheck : l.state ≠ .recheck)
    (h : l.plain → l.Eases m) : l.Yields m :=
  ⟨h, fun _ w => (w.state.elim checking recheck).elim⟩

/-! ### The occupied set (R21) -/

/-- The carrier of ordinal `o` on step `f` of a record, as a member of the occupied set. -/
def Link.member (p : Profile) (h : Nat) (l : Link) (o f : Nat) : Party :=
  ⟨.held h o, some h, f, (p.cls (l.cls.getD 0)).halfWidth, (p.cls (l.cls.getD 0)).contributes, l.zones⟩

theorem mem_members_iff {p : Profile} {h : Nat} {l : Link} {a : Party} :
    a ∈ l.members p h ↔ ∃ o f, (o, f) ∈ l.held ∧ a = l.member p h o f := by
  constructor
  · intro m
    obtain ⟨x, hx, rfl⟩ := List.mem_map.mp m
    exact ⟨x.1, x.2, hx, rfl⟩
  · rintro ⟨o, f, held, rfl⟩
    exact List.mem_map.mpr ⟨_, held, rfl⟩

theorem Link.member_alike {p : Profile} {h : Nat} {l m : Link} (cls : m.cls.getD 0 = l.cls.getD 0)
    (zones : m.zones = l.zones) (o o' f : Nat) : (m.member p h o f).alike (l.member p h o' f) := by
  rw [Link.member, cls, zones]
  exact ⟨rfl, rfl, rfl, rfl, rfl⟩

theorem State.mem_occupied (s : State) (a : Party) :
    a ∈ s.occupied ↔ ∃ h, h < 160 ∧ a ∈ (s.link h).members s.engine.prof h := by
  simp [State.occupied_eq]

theorem Link.Eases.members {l m : Link} (e : l.Eases m) (p : Profile) (h : Nat) :
    Covers (l.members p h) (m.members p h) := by
  intro a ha
  obtain ⟨o, f, held, rfl⟩ := mem_members_iff.mp ha
  obtain ⟨hl, cls, zones⟩ := e.holds f ((m.holds_iff _).mpr ⟨o, held⟩)
  obtain ⟨o', held'⟩ := (l.holds_iff _).mp hl
  exact ⟨_, mem_members_iff.mpr ⟨o', f, held', rfl⟩, Link.member_alike cls zones o o' f⟩

theorem heldKeys_occupied (s : State) : HeldKeys s.occupied := by
  intro a ha
  obtain ⟨h, -, ha⟩ := (s.mem_occupied a).mp ha
  obtain ⟨o, f, -, rfl⟩ := mem_members_iff.mp ha
  exact ⟨h, o, rfl, rfl⟩

theorem prof_congr {e e' : Engine} (h : e'.profile = e.profile) : e'.prof = e.prof := by
  rw [Engine.prof, h, Engine.prof]

/-- Where every record eases, the occupied set is covered by what it was. -/
theorem covers_occupied {s t : State} (profile : t.engine.profile = s.engine.profile)
    (e : ∀ h, (s.link h).Eases (t.link h)) : Covers s.occupied t.occupied := by
  intro a ha
  obtain ⟨h, lt, ha⟩ := (t.mem_occupied a).mp ha
  rw [prof_congr profile] at ha
  obtain ⟨b, hb, alike⟩ := (e h).members _ h a ha
  exact ⟨b, (s.mem_occupied b).mpr ⟨h, lt, hb⟩, alike⟩

/-! ### Jobs (R39, R40) -/

/-- The jobs that are not void, by the links that wait for them. -/
def Engine.awaited (e : Engine) : List Nat := (e.queue.filter fun j => !j.void).map (·.handle)

theorem Engine.mem_awaited (e : Engine) (h : Nat) :
    h ∈ e.awaited ↔ ∃ j, j ∈ e.queue ∧ j.void = false ∧ j.handle = h := by
  simp [Engine.awaited, and_assoc]

/-- The head of the queue is the running job, one with a trial where it is a pool job. -/
def Engine.heads (e : Engine) (trial : Option Nat) : Prop :=
  ∃ j, e.queue.head? = some j ∧ (trial.isSome = true → j.step = none)

/-- The jobs fit their links, one for a link, and a running one stands at the head. -/
structure JobsFit (s : State) : Prop where
  fits : ∀ j, j ∈ s.engine.queue → j.void = false → s.jobFits j
  once : s.engine.awaited.Nodup
  runs : ∀ occ trial failures, s.engine.work = .job occ trial failures → s.engine.heads trial

/-- What keeps R64, part by part. -/
structure Coordinated (s : State) : Prop where
  guarded : Guarded s.engine s.occupied
  blank : s.configured = false → s.occupied = [] ∧ s.engine.queue = []
  jobs : JobsFit s
  plain : ∀ h, (s.link h).plain
  covered : ∀ occ trial failures, s.engine.work = .job occ trial failures →
    HeldKeys occ ∧ Covers occ s.occupied

theorem State.coordinated_iff (s : State) : s.coordinated ↔ Coordinated s := by
  constructor
  · rintro ⟨guarded, blank, fits, once, plain, run⟩
    refine ⟨s.protectedSet_iff.mp guarded, blank, ⟨fits, once, fun occ trial failures w => ?_⟩, plain,
      fun occ trial failures w => ?_⟩
    · exact (run occ trial failures w).1
    · exact (run occ trial failures w).2
  · rintro ⟨guarded, blank, ⟨fits, once, runs⟩, plain, covered⟩
    exact ⟨s.protectedSet_iff.mpr guarded, blank, fits, once, plain,
      fun occ trial failures w => ⟨runs occ trial failures w, covered occ trial failures w⟩⟩

theorem Engine.configured_congr {s t : State} (h : t.engine.profile = s.engine.profile) :
    t.configured = s.configured := by
  rw [State.configured, h, State.configured]

/-- Where records ease and jobs still fit, R64 is kept; a job at work is the one that was at work, or has
just fixed its occupied set. -/
theorem Coordinated.of_eases {s t : State} (c : Coordinated s)
    (profile : t.engine.profile = s.engine.profile)
    (bounds : ∀ a, a ∈ s.occupied → s.engine.inBounds a → t.engine.inBounds a)
    (eases : ∀ h, (s.link h).plain → (s.link h).Eases (t.link h))
    (blank : s.configured = false → s.engine.queue = [] → t.engine.queue = []) (jobs : JobsFit t)
    (works : ∀ occ trial failures, t.engine.work = .job occ trial failures →
      (∃ trial' failures', s.engine.work = .job occ trial' failures') ∨ occ = t.occupied) :
    Coordinated t := by
  have cov := covers_occupied profile fun h => eases h (c.plain h)
  refine ⟨(c.guarded.of_engine profile bounds).of_covers cov, fun off => ?_, jobs,
    fun h => (eases h (c.plain h)).plain, fun occ trial failures w => ?_⟩
  · obtain ⟨none, empty⟩ := c.blank ((Engine.configured_congr profile).symm.trans off)
    refine ⟨List.eq_nil_iff_forall_not_mem.mpr fun a ha => ?_,
      blank ((Engine.configured_congr profile).symm.trans off) empty⟩
    obtain ⟨b, hb, -⟩ := cov a ha
    simp [none] at hb
  · rcases works occ trial failures w with ⟨trial', failures', old⟩ | rfl
    · obtain ⟨keys, covers⟩ := c.covered occ trial' failures' old
      exact ⟨keys, covers.trans cov⟩
    · exact ⟨heldKeys_occupied t, .refl _⟩

/-- R64 is a matter of the records and the engine alone. -/
theorem Coordinated.of_yields {s t : State} (c : Coordinated s) (engine : t.engine = s.engine)
    (y : ∀ h, (s.link h).Yields (t.link h)) : Coordinated t := by
  refine c.of_eases (by rw [engine]) (fun a _ => by rw [engine]; exact id) (fun h => (y h).eases)
    (fun _ => by rw [engine]; exact id) ⟨?_, by rw [engine]; exact c.jobs.once,
      by rw [engine]; exact c.jobs.runs⟩ (fun occ trial failures w => .inl ⟨trial, failures, engine ▸ w⟩)
  rw [engine]
  intro j hj hv
  obtain ⟨lt, waits⟩ := c.jobs.fits j hj hv
  exact ⟨lt, (y j.handle).awaits j waits⟩

theorem Coordinated.congr {s t : State} (c : Coordinated s) (engine : t.engine = s.engine)
    (links : t.links = s.links) : Coordinated t :=
  c.of_yields engine fun h => by simp only [State.link, links]; exact .refl _

/-- The jobs that are left fit, where only other records than theirs have changed. -/
theorem JobsFit.of_queue {s t : State} (c : JobsFit s)
    (sub : (t.engine.queue.filter fun j => !j.void).Sublist (s.engine.queue.filter fun j => !j.void))
    (links : ∀ h, h ∈ t.engine.awaited → ∀ j, (s.link h).awaits j → (t.link h).awaits j)
    (runs : ∀ occ trial failures, t.engine.work = .job occ trial failures → t.engine.heads trial) :
    JobsFit t := by
  refine ⟨fun j hj hv => ?_, (sub.map _).nodup c.once, runs⟩
  have old : j ∈ s.engine.queue.filter fun j => !j.void := sub.subset (by simp [hj, hv])
  obtain ⟨lt, waits⟩ := c.fits j (List.mem_filter.mp old).1 hv
  exact ⟨lt, links j.handle ((t.engine.mem_awaited _).mpr ⟨j, hj, hv, rfl⟩) j waits⟩

/-- A record for which no job waits may drop carriers. -/
theorem Coordinated.setLink {s : State} (c : Coordinated s) {h : Nat} {l : Link}
    (unawaited : h ∉ s.engine.awaited) (e : (s.link h).plain → (s.link h).Eases l) :
    Coordinated (s.setLink h l) := by
  have link : ∀ g, (s.setLink h l).link g = if g = h ∧ h < 160 then l else s.link g :=
    fun g => s.link_setLink h g l
  refine c.of_eases (t := s.setLink h l) rfl (fun _ _ => id) (fun g p => ?_) (fun _ => id)
    (c.jobs.of_queue (.refl _) (fun g hg j => ?_) c.jobs.runs)
    (fun occ trial failures w => .inl ⟨trial, failures, w⟩)
  · rw [link]
    split
    · rename_i hg
      obtain ⟨rfl, -⟩ := hg
      exact e p
    · exact .refl p
  · rw [link, if_neg fun e : g = h ∧ h < 160 => unawaited (e.1 ▸ hg)]
    exact id

/-- Only a record that is CHECKING or RECHECK is waited for. -/
theorem Coordinated.unawaited {s : State} (c : Coordinated s) {h : Nat}
    (checking : (s.link h).state ≠ .checking) (recheck : (s.link h).state ≠ .recheck) :
    h ∉ s.engine.awaited := by
  intro m
  obtain ⟨j, hj, hv, rfl⟩ := (s.engine.mem_awaited h).mp m
  exact (Link.awaits.state (c.jobs.fits j hj hv).2).elim checking recheck

/-! ### Jobs offered, voided and completed (R40, R62, R63) -/

/-- A job offered for a record that waits for it, and for no other. -/
theorem Coordinated.offer {s : State} (c : Coordinated s) (on : s.configured = true) {j : Job}
    (fits : s.jobFits j) (once : j.handle ∉ s.engine.awaited) : Coordinated (s.offer j) := by
  refine c.of_eases (t := s.offer j) rfl (fun _ _ => id) (fun _ => .refl)
    (fun off => by rw [on] at off; cases off) ⟨fun k hk hv => ?_, ?_, fun occ trial failures w => ?_⟩
    (fun occ trial failures w => .inl ⟨trial, failures, w⟩)
  · rcases List.mem_append.mp hk with hk | hk
    · exact c.jobs.fits k hk hv
    · rw [List.mem_singleton.mp hk]
      exact fits
  · show (((s.engine.queue ++ [j]).filter fun k => !k.void).map (·.handle)).Nodup
    rw [List.filter_append, List.map_append]
    refine List.Nodup.append c.jobs.once ?_ fun g hg hj => once ?_
    · exact (List.nodup_singleton j.handle).sublist ((List.filter_sublist (l := [j])).map _)
    · obtain ⟨k, hk, rfl⟩ := List.mem_map.mp hj
      rw [List.mem_singleton.mp (List.mem_filter.mp hk).1] at hg
      exact hg
  · obtain ⟨k, hk, ht⟩ := c.jobs.runs occ trial failures w
    exact ⟨k, by simp [State.offer, List.head?_append, hk], ht⟩

theorem voidIn_nil (running : Bool) (h : Nat) : voidIn running h [] = [] := rfl

theorem voidIn_waiting (h : Nat) (js : List Job) :
    voidIn false h js = js.filter fun k => k.handle != h := by
  cases js <;> simp [voidIn]

theorem voidIn_running (h : Nat) (j : Job) (js : List Job) :
    voidIn true h (j :: js) = if j.handle = h ∧ j.void = false then { j with void := true } :: js
      else j :: js.filter fun k => k.handle != h := by
  simp [voidIn]

/-- Voiding takes jobs from those that are not void, and adds none. -/
theorem voidIn_sublist (running : Bool) (h : Nat) (js : List Job) :
    ((voidIn running h js).filter fun k => !k.void).Sublist (js.filter fun k => !k.void) := by
  cases running with
  | false =>
    rw [voidIn_waiting]
    exact List.filter_sublist.filter _
  | true =>
    cases js with
    | nil => exact .refl _
    | cons j js =>
      rw [voidIn_running]
      split
      · exact (List.sublist_cons_self j js).filter _
      · exact (List.filter_sublist.cons_cons j).filter _

/-- After the job of a link is voided, no job that is not void is the link's. -/
theorem voidIn_handle {running : Bool} {h : Nat} {js : List Job}
    (once : ((js.filter fun k => !k.void).map (·.handle)).Nodup) {k : Job}
    (hk : k ∈ voidIn running h js) (hv : k.void = false) : k.handle ≠ h := by
  cases running with
  | false =>
    rw [voidIn_waiting] at hk
    simpa using (List.mem_filter.mp hk).2
  | true =>
    cases js with
    | nil => cases hk
    | cons j js =>
      rw [voidIn_running] at hk
      split at hk
      · rename_i own
        rcases List.mem_cons.mp hk with rfl | hk
        · cases hv
        · rintro rfl
          simp only [own.2, Bool.not_false, List.filter_cons_of_pos, List.map_cons, List.nodup_cons] at once
          exact once.1 (List.mem_map.mpr ⟨k, List.mem_filter.mpr ⟨hk, by simp [hv]⟩, own.1.symm⟩)
      · rename_i other
        rcases List.mem_cons.mp hk with rfl | hk
        · exact fun e => other ⟨e, hv⟩
        · simpa using (List.mem_filter.mp hk).2

theorem heads_voidJob {s : State} {h : Nat} {trial : Option Nat} (running : s.engine.work.onJob = true)
    (c : s.engine.heads trial) : (s.voidJob h).engine.heads trial := by
  obtain ⟨j, hj, ht⟩ := c
  obtain ⟨js, e⟩ : ∃ js, s.engine.queue = j :: js := by
    cases q : s.engine.queue with
    | nil => simp [q] at hj
    | cons k ks => simp only [q, List.head?_cons, Option.some.injEq] at hj; exact ⟨ks, by rw [hj]⟩
  have queue : (s.voidJob h).engine.queue = voidIn true h (j :: js) := by
    rw [← e, ← running]
    rfl
  rw [Engine.heads, queue, voidIn_running]
  split
  · exact ⟨_, rfl, ht⟩
  · exact ⟨_, rfl, ht⟩

theorem Coordinated.voidJob {s : State} (c : Coordinated s) (h : Nat) :
    Coordinated (s.voidJob h) ∧ h ∉ (s.voidJob h).engine.awaited := by
  refine ⟨c.of_eases (t := s.voidJob h) rfl (fun _ _ => id) (fun _ => .refl) (fun _ empty => ?_)
    (c.jobs.of_queue (voidIn_sublist _ h _) (fun _ _ _ => id) fun occ trial failures w => ?_)
    (fun occ trial failures w => .inl ⟨trial, failures, w⟩), fun m => ?_⟩
  · show voidIn _ h s.engine.queue = []
    rw [empty, voidIn_nil]
  · have running : s.engine.work = .job occ trial failures := w
    exact heads_voidJob (by rw [running]; rfl) (c.jobs.runs occ trial failures running)
  · obtain ⟨k, hk, hv, e⟩ := ((s.voidJob h).engine.mem_awaited h).mp m
    exact voidIn_handle c.jobs.once hk hv e

theorem Coordinated.dropHead {s : State} (c : Coordinated s) : Coordinated s.dropHead := by
  refine c.of_eases (t := s.dropHead) rfl (fun _ _ => id) (fun _ => .refl) (fun _ empty => ?_)
    (c.jobs.of_queue ((List.tail_sublist _).filter _) (fun _ _ _ => id) fun _ _ _ w => ?_)
    (fun _ _ _ w => ?_)
  · show s.engine.queue.tail = []
    rw [empty]
    rfl
  · cases w
  · cases w

/-- Once the head has left the queue, no other job is its link's. -/
theorem Coordinated.unawaited_head {s : State} (c : Coordinated s) {j : Job} {rest : List Job}
    (queue : s.engine.queue = j :: rest) (hv : j.void = false) :
    j.handle ∉ s.dropHead.engine.awaited := by
  have once := c.jobs.once
  simp only [Engine.awaited, queue, hv, Bool.not_false, List.filter_cons_of_pos, List.map_cons,
    List.nodup_cons] at once
  simpa [Engine.awaited, State.dropHead, queue] using once.1

/-! ### Verdicts (R66, R67, R70, R71, R73) -/

/-- A step has been found clear for a job: the check that found it met every carrier held. -/
def State.found (s : State) (j : Job) (f : Nat) : Prop :=
  (∃ occ, Fits s.engine.prof occ (s.jobCandidate j f) ∧ Covers occ s.occupied)
    ∧ s.engine.inBounds (s.jobCandidate j f)

/-- A record takes up the step found for its job. -/
theorem Coordinated.grant {s : State} (c : Coordinated s) (on : s.configured = true)
    (idle : s.engine.work = .idle) {j : Job} {f : Nat} {l : Link} (found : s.found j f)
    (unawaited : j.handle ∉ s.engine.awaited) (plain : l.plain)
    (holds : ∀ g, l.holds g → l.cls.getD 0 = (s.link j.handle).cls.getD 0
      ∧ (g = f ∧ l.cls.getD 0 = j.cls ∧ l.zones = j.zones
        ∨ (s.link j.handle).holds g ∧ l.zones = (s.link j.handle).zones)) :
    Coordinated (s.setLink j.handle l) := by
  have link : ∀ g, (s.setLink j.handle l).link g = if g = j.handle ∧ j.handle < 160 then l else s.link g :=
    fun g => s.link_setLink j.handle g l
  obtain ⟨⟨occ, fits, cov⟩, inside⟩ := found
  refine ⟨c.guarded.granted (fits.of_covers cov) inside fun a ha => ?_, fun off => ?_,
    c.jobs.of_queue (.refl _) (fun g hg k => ?_) c.jobs.runs, fun g => ?_, fun _ _ _ w => ?_⟩
  · obtain ⟨g, lt, ha⟩ := (State.mem_occupied _ a).mp ha
    rw [link] at ha
    split at ha
    · rename_i own
      obtain ⟨rfl, -⟩ := own
      obtain ⟨o, g, held, rfl⟩ := mem_members_iff.mp ha
      obtain ⟨cls, new | ⟨old, zones⟩⟩ := holds g ((l.holds_iff _).mpr ⟨o, held⟩)
      · obtain ⟨rfl, cls, zones⟩ := new
        refine ⟨_, .inl rfl, ?_⟩
        rw [Link.member, cls, zones]
        exact ⟨rfl, rfl, rfl, rfl, rfl⟩
      · obtain ⟨o', held'⟩ := ((s.link j.handle).holds_iff _).mp old
        exact ⟨_, .inr ((s.mem_occupied _).mpr ⟨j.handle, lt, mem_members_iff.mpr ⟨o', g, held', rfl⟩⟩),
          Link.member_alike cls zones o o' g⟩
    · exact ⟨a, .inr ((s.mem_occupied a).mpr ⟨g, lt, ha⟩), a.alike_refl⟩
  · have off : s.configured = false := off
    rw [on] at off
    cases off
  · rw [link, if_neg fun e : g = j.handle ∧ j.handle < 160 => unawaited (e.1 ▸ hg)]
    exact id
  · rw [link]
    split
    · exact plain
    · exact c.plain g
  · rw [State.setLink_engine, idle] at w
    cases w

theorem Link.admitted_holds {l : Link} {f g : Nat} (h : (l.admitted f).holds g) : g = f := by
  rcases h with ⟨-, h⟩ | ⟨-, h⟩
  · cases h
  · exact (Option.some.inj h).symm

theorem Link.granted_state (l : Link) (f : Nat) (onAir : Bool) :
    (l.granted f onAir).state = .retuneWait ∨ (l.granted f onAir).state = .settling := by
  unfold Link.granted
  split
  · exact .inl rfl
  · exact .inr rfl

/-- A granted record has its fields but the target from the record before. -/
theorem Link.granted_fields (l : Link) (f : Nat) (onAir : Bool) :
    (l.granted f onAir).cls = l.cls ∧ (l.granted f onAir).zones = l.zones
      ∧ (l.granted f onAir).carrier = l.carrier ∧ (l.granted f onAir).target = some f := by
  unfold Link.granted
  split
  · exact ⟨rfl, rfl, rfl, rfl⟩
  · exact ⟨rfl, rfl, rfl, rfl⟩

theorem Link.plain_of_state {l : Link} (active : l.state ≠ .active) (referred : l.state ≠ .referred) :
    l.plain := fun h => (h.elim active referred).elim

theorem Link.eases_backActive {l : Link} (h : l.state.occupied = true) : l.Eases l.backActive := by
  refine ⟨fun _ => rfl, fun f hf => ⟨.inl ⟨h, ?_⟩, rfl, rfl⟩⟩
  simpa [Link.holds, Link.backActive, LinkState.occupied, LinkState.holdsTarget] using hf

theorem Link.eases_toReferred {l : Link} (h : l.state.occupied = true) (deadline : Nat) :
    l.Eases (l.toReferred deadline) := by
  refine ⟨fun _ => rfl, fun f hf => ⟨.inl ⟨h, ?_⟩, rfl, rfl⟩⟩
  simpa [Link.holds, Link.toReferred, LinkState.occupied, LinkState.holdsTarget] using hf

theorem Coordinated.enterFree {s : State} (c : Coordinated s) {h : Nat} (unawaited : h ∉ s.engine.awaited) :
    Coordinated (s.enterFree h) :=
  (c.setLink unawaited fun _ => (s.link h).eases_free).congr rfl rfl

section verdicts

variable {s : State} {j : Job} (c : Coordinated s) (on : s.configured = true)
  (idle : s.engine.work = .idle) (unawaited : j.handle ∉ s.engine.awaited)
  (waits : (s.link j.handle).awaits j)

include c on idle unawaited waits

theorem coordinated_admissionVerdict {v : Verdict} (checking : (s.link j.handle).state = .checking)
    (found : ∀ f m t, v = .pass f m t → s.found j f) :
    Coordinated (s.admissionVerdict j (s.link j.handle) v) := by
  cases v with
  | pass f m t =>
    have zones : j.zones = (s.link j.handle).zones := by
      rcases waits.2 with ⟨-, zones⟩ | ⟨recheck, -⟩
      · exact zones
      · rw [checking] at recheck
        cases recheck
    have granted : Coordinated (s.setLink j.handle ((s.link j.handle).admitted f)) := by
      refine c.grant on idle (found f m t rfl) unawaited ?_ fun g hg => ⟨rfl, .inl ⟨?_, waits.1, ?_⟩⟩
      · exact Link.plain_of_state (fun e => by cases e) fun e => by cases e
      · exact Link.admitted_holds hg
      · exact zones.symm
    exact granted.congr rfl rfl
  | fail f d => exact (c.enterFree unawaited).congr rfl rfl
  | noSpare n => exact (c.enterFree unawaited).congr rfl rfl

theorem coordinated_retuneVerdict {v : Verdict} (recheck : (s.link j.handle).state = .recheck)
    (move : (s.link j.handle).job ≠ some .move) (found : ∀ f m t, v = .pass f m t → s.found j f) :
    Coordinated (s.retuneVerdict j (s.link j.handle) v) := by
  have occupied : (s.link j.handle).state.occupied = true := by rw [recheck]; rfl
  have back : Coordinated (s.setLink j.handle (s.link j.handle).backActive) :=
    c.setLink unawaited fun _ => Link.eases_backActive occupied
  cases v with
  | pass f m t =>
    have zones : j.zones = (s.link j.handle).zones := by
      rcases waits.2 with ⟨checking, -⟩ | ⟨-, zones⟩
      · rw [recheck] at checking
        cases checking
      · rwa [if_neg move] at zones
    obtain ⟨cls, sameZones, carrier, target⟩ := (s.link j.handle).granted_fields f (s.onAir j.handle)
    have state := (s.link j.handle).granted_state f (s.onAir j.handle)
    have granted : Coordinated
        (s.setLink j.handle ((s.link j.handle).granted f (s.onAir j.handle))) := by
      refine c.grant on idle (found f m t rfl) unawaited ?_ fun g hg => ⟨by rw [cls], ?_⟩
      · rcases state with e | e
        all_goals exact Link.plain_of_state (by rw [e]; decide) (by rw [e]; decide)
      · rcases hg with ⟨-, hg⟩ | ⟨-, hg⟩
        · exact .inr ⟨.inl ⟨occupied, carrier ▸ hg⟩, sameZones⟩
        · rw [target, Option.some.injEq] at hg
          exact .inl ⟨hg.symm, by rw [cls, waits.1], by rw [sameZones, zones]⟩
    exact granted.congr rfl rfl
  | fail f d => exact back.congr rfl rfl
  | noSpare n =>
    simp only [State.retuneVerdict]
    split
    · exact (c.setLink unawaited fun _ => Link.eases_toReferred occupied _).congr rfl rfl
    · exact back.congr rfl rfl

theorem coordinated_moveVerdict {v : Verdict} (recheck : (s.link j.handle).state = .recheck)
    (move : (s.link j.handle).job = some .move)
    (found : ∀ f m t, v = .pass f m t → s.found j f ∧ ∀ g, j.step = some g → g = f) :
    Coordinated (s.moveVerdict j (s.link j.handle) v) := by
  have occupied : (s.link j.handle).state.occupied = true := by rw [recheck]; rfl
  have back : ∀ g z, (Link.holds { (s.link j.handle).backActive with zones := z } g) →
      (s.link j.handle).carrier = some g := by
    intro g z hg
    simpa [Link.holds, Link.backActive, LinkState.occupied, LinkState.holdsTarget] using hg
  cases v with
  | pass f m t =>
    obtain ⟨found, step⟩ := found f m t rfl
    have carrier : ∀ g, (s.link j.handle).carrier = some g → j.step = some g := by
      rcases waits.2 with ⟨checking, -⟩ | ⟨-, own⟩
      · rw [recheck] at checking
        cases checking
      · rw [if_pos move] at own
        exact own.2
    have granted : Coordinated
        (s.setLink j.handle { (s.link j.handle).backActive with zones := j.zones }) :=
      c.grant on idle found unawaited (fun _ => rfl)
        fun g hg => ⟨rfl, .inl ⟨step g (carrier g (back g _ hg)), waits.1, rfl⟩⟩
    exact granted.congr rfl rfl
  | fail f d => exact (c.setLink unawaited fun _ => Link.eases_backActive occupied).congr rfl rfl
  | noSpare n => exact (c.setLink unawaited fun _ => Link.eases_backActive occupied).congr rfl rfl

/-- A verdict is delivered to a record that waits for it (R58). -/
theorem coordinated_deliver {v : Verdict}
    (found : ∀ f m t, v = .pass f m t → s.found j f ∧ ∀ g, j.step = some g → g = f) :
    Coordinated (s.deliver j v) := by
  have found' : ∀ f m t, v = .pass f m t → s.found j f := fun f m t e => (found f m t e).1
  rcases waits.state with checking | recheck
  · simp only [State.deliver, checking]
    exact coordinated_admissionVerdict c on idle unawaited waits checking found'
  · simp only [State.deliver, recheck]
    split
    · exact coordinated_moveVerdict c on idle unawaited waits recheck ‹_› found
    · exact coordinated_retuneVerdict c on idle unawaited waits recheck ‹_› found'

end verdicts

end Sys2Proof.Machine
end

section
/-! What the work of an event keeps, operation by operation: the pins, a port that only takes in notices, the
bound of the Check Queue, and what R64 rests on. -/

namespace Sys2Proof.Machine

open Sys2Proof

/-! ### The relation -/

/-- Notices have joined the queue, within its bound, and nothing else that a collect or a request rests on has
changed (R186, R187). -/
structure Port.Grown (p q : Port) : Prop where
  transaction : q.transaction = p.transaction
  owed : q.owed = p.owed
  presented : q.presented = p.presented
  notices : p.notices <+: q.notices
  bound : p.notices.length ≤ 16 → q.notices.length ≤ 16

theorem Port.Grown.refl (p : Port) : p.Grown p := ⟨rfl, rfl, rfl, List.prefix_refl _, id⟩

theorem Port.Grown.trans {p q r : Port} (a : p.Grown q) (b : q.Grown r) : p.Grown r :=
  ⟨b.transaction.trans a.transaction, b.owed.trans a.owed, b.presented.trans a.presented,
    a.notices.trans b.notices, fun h => b.bound (a.bound h)⟩

theorem Port.grown_queue (p : Port) (n : Notice) : p.Grown (p.queue n) :=
  ⟨p.queue_transaction n, p.queue_owed n, p.queue_presented n, p.queue_keeps n, Port.queue_length n⟩

/-- Work that an event does in the part, from `s` to `t`. -/
structure Proceeds (s t : State) : Prop where
  pins : t.pins = s.pins
  port : s.port.Grown t.port
  queue : s.engine.queue.length ≤ 12 → t.engine.queue.length ≤ 12
  coordinated : Coordinated s → Coordinated t

theorem Proceeds.refl (s : State) : Proceeds s s := ⟨rfl, .refl _, id, id⟩

theorem Proceeds.trans {s t u : State} (a : Proceeds s t) (b : Proceeds t u) : Proceeds s u :=
  ⟨b.pins.trans a.pins, a.port.trans b.port, fun h => b.queue (a.queue h),
    fun c => b.coordinated (a.coordinated c)⟩

/-- Work that leaves the engine and yields at every record. -/
theorem proceeds_of_yields {s t : State} (pins : t.pins = s.pins) (port : s.port.Grown t.port)
    (engine : t.engine = s.engine) (y : ∀ h, (s.link h).Yields (t.link h)) : Proceeds s t :=
  ⟨pins, port, fun h => by rw [engine]; exact h, fun c => c.of_yields engine y⟩

/-- Work in other blocks than the Link Table, the engine and the Control Port. -/
theorem Proceeds.beside {s t u : State} (a : Proceeds s t) (pins : u.pins = t.pins)
    (port : u.port = t.port) (engine : u.engine = t.engine) (links : u.links = t.links) : Proceeds s u :=
  a.trans (proceeds_of_yields pins (by rw [port]; exact .refl _) engine
    fun h => by simp only [State.link, links]; exact .refl _)

theorem Proceeds.notify {s t : State} (a : Proceeds s t) (n : Notice) : Proceeds s (t.notify n) :=
  a.trans (proceeds_of_yields rfl (Port.grown_queue _ n) rfl fun _ => .refl _)

theorem proceeds_beside {s t : State} (pins : t.pins = s.pins) (port : t.port = s.port)
    (engine : t.engine = s.engine) (links : t.links = s.links) : Proceeds s t :=
  (Proceeds.refl s).beside pins port engine links

theorem Proceeds.setTalk {s t : State} (a : Proceeds s t) (x : Talk) : Proceeds s (t.setTalk x) :=
  a.beside rfl rfl rfl rfl

theorem Proceeds.setPool {s t : State} (a : Proceeds s t) (x : Pool) : Proceeds s (t.setPool x) :=
  a.beside rfl rfl rfl rfl

theorem Proceeds.setPlans {s t : State} (a : Proceeds s t) (x : Plans) : Proceeds s (t.setPlans x) :=
  a.beside rfl rfl rfl rfl

theorem Proceeds.setRadio {s t : State} (a : Proceeds s t) (x : Radio) : Proceeds s (t.setRadio x) :=
  a.beside rfl rfl rfl rfl

/-! ### Records -/

theorem proceeds_setLink {s : State} {h : Nat} {l : Link} (y : (s.link h).Yields l) :
    Proceeds s (s.setLink h l) := by
  refine proceeds_of_yields rfl (.refl _) rfl fun g => ?_
  rw [State.link_setLink]
  split
  · rename_i e
    rw [e.1]
    exact y
  · exact .refl _

/-- Every record changed by `f`. -/
theorem proceeds_mapLinks (s : State) {f : Nat → Link → Link} (y : ∀ (h : Nat) (l : Link), l.Yields (f h l)) :
    Proceeds s (s.setLinks (s.links.mapIdx f)) := by
  refine proceeds_of_yields rfl (.refl _) rfl fun h => ?_
  have link : (s.setLinks (s.links.mapIdx f)).link h = if h < 160 then f h (s.link h) else Link.free :=
    Tab.get_mapIdx _ _ _ Link.free _
  rw [link]
  split
  · exact y h _
  · rename_i out
    rw [s.link_out (Nat.le_of_not_lt out)]
    exact .refl _

theorem Proceeds.restandAll {s t : State} (a : Proceeds s t) : Proceeds s t.restandAll := by
  rw [State.restandAll_eq]
  exact a.setTalk _

theorem Proceeds.restandOne {s t : State} (a : Proceeds s t) (id : Nat) : Proceeds s (t.restandOne id) := by
  unfold State.restandOne
  split
  · exact a
  · exact a.setTalk _

theorem Proceeds.evalLowPool {s t : State} (a : Proceeds s t) : Proceeds s t.evalLowPool := by
  unfold State.evalLowPool
  split
  · exact a.setPool _
  · split
    · exact (a.setPool _).notify _
    · exact a

theorem Proceeds.lowPoolSince {s t : State} (a : Proceeds s t) (n : Nat) :
    Proceeds s (t.lowPoolSince n) := by
  unfold State.lowPoolSince
  split
  · exact a
  · exact a.evalLowPool

theorem Proceeds.leavePlans {s t : State} (a : Proceeds s t) (h : Nat) (was : LinkState) :
    Proceeds s (t.leavePlans h was) := by
  unfold State.leavePlans State.trim
  split
  · simp only
    split
    · exact (((a.setPlans _).setRadio _).setTalk _).restandAll
    · exact (a.setTalk _).restandAll
  · exact a

theorem Link.eases_releasing {l : Link} (h : l.state ≠ .free ∧ l.state ≠ .checking)
    (target : l.plain → ∀ f, l.target = some f → l.state.holdsTarget = true) (p : l.plain) :
    l.Eases l.releasing := by
  refine ⟨Link.plain_of_state (fun e => by cases e) (fun e => by cases e), fun f hf => ⟨?_, rfl, rfl⟩⟩
  rcases hf with ⟨-, hf⟩ | ⟨-, hf⟩
  · exact .inl ⟨(LinkState.occupied_iff _).mpr h, hf⟩
  · exact .inr ⟨target p f hf, hf⟩

/-- A link that enters RELEASING, its fields being `l`. -/
theorem Proceeds.enterReleasing {s t : State} {h : Nat} {l : Link} (a : Proceeds s (t.setLink h l.releasing)) :
    Proceeds s (t.enterReleasing h l) :=
  a.leavePlans h l.state

theorem proceeds_enterFree {s : State} {h : Nat} (checking : (s.link h).state ≠ .checking)
    (recheck : (s.link h).state ≠ .recheck) : Proceeds s (s.enterFree h) :=
  (((proceeds_setLink (Link.yields_of_eases checking recheck fun _ => Link.eases_free _)).setPool _).setTalk
    _).restandAll

theorem proceeds_enterLost {s : State} {h : Nat} {l : Link} (y : (s.link h).Yields l.toLost) :
    Proceeds s (s.enterLost h l) :=
  ((proceeds_setLink y).leavePlans h l.state).notify _

/-! ### Jobs -/

/-- Record `h`, for which no job waits, becomes `l`, and job `j` is offered for it. -/
theorem proceeds_offer {s : State} (on : s.configured = true) (full : s.engine.full = false) {h : Nat}
    (lt : h < 160) {l : Link} {j : Job} (handle : j.handle = h) (waits : l.awaits j)
    (checking : (s.link h).state ≠ .checking) (recheck : (s.link h).state ≠ .recheck)
    (e : (s.link h).plain → (s.link h).Eases l) : Proceeds s ((s.setLink h l).offer j) := by
  refine ⟨rfl, .refl _, fun _ => ?_, fun c => ?_⟩
  · have room : s.engine.queue.length < 12 := by simpa [Engine.full] using full
    show (s.engine.queue ++ [j]).length ≤ 12
    rw [List.length_append, List.length_singleton]
    omega
  · have unawaited := c.unawaited checking recheck
    refine (c.setLink unawaited e).offer on ?_ (handle ▸ unawaited)
    rw [State.jobFits_iff, handle, State.link_setLink_same _ _ lt]
    exact ⟨lt, waits⟩

theorem voidIn_length (running : Bool) (h : Nat) (js : List Job) : (voidIn running h js).length ≤ js.length := by
  cases running with
  | false =>
    rw [voidIn_waiting]
    exact List.length_filter_le _ _
  | true =>
    cases js with
    | nil => exact Nat.le_refl _
    | cons j js =>
      rw [voidIn_running]
      split
      · exact Nat.le_refl _
      · exact Nat.succ_le_succ (List.length_filter_le _ _)

/-- The job of link `h` is voided, and its record becomes `l`. -/
theorem proceeds_voidJob {s : State} {h : Nat} {l : Link} (e : (s.link h).plain → (s.link h).Eases l) :
    Proceeds s ((s.voidJob h).setLink h l) := by
  refine ⟨rfl, .refl _, fun len => (voidIn_length _ h _).trans len, fun c => ?_⟩
  obtain ⟨c', unawaited⟩ := c.voidJob h
  exact c'.setLink unawaited e

/-! ### Completions (R44, R60, R63) -/

theorem Coordinated.configured {s : State} (c : Coordinated s) {j : Job} {rest : List Job}
    (queue : s.engine.queue = j :: rest) : s.configured = true := by
  cases on : s.configured with
  | true => rfl
  | false =>
    obtain ⟨-, empty⟩ := c.blank on
    simp [queue] at empty

theorem grown_deliver (s : State) (j : Job) (v : Verdict) : s.port.Grown (s.deliver j v).port := by
  have result : ∀ n : Notice, s.port.Grown (s.port.queue n) := Port.grown_queue s.port
  unfold State.deliver
  simp only
  split
  · cases v <;> exact result _
  · split
    · exact result _
    · cases v with
      | pass => exact result _
      | fail => exact result _
      | noSpare n =>
        simp only [State.retuneVerdict]
        split <;> exact result _
  · exact .refl _

theorem engine_deliver (s : State) (j : Job) (v : Verdict) : (s.deliver j v).engine = s.engine := by
  unfold State.deliver
  simp only
  split
  · cases v <;> rfl
  · split
    · rfl
    · cases v with
      | pass => rfl
      | fail => rfl
      | noSpare n =>
        simp only [State.retuneVerdict]
        split <;> rfl
  · rfl

theorem pins_deliver (s : State) (j : Job) (v : Verdict) : (s.deliver j v).pins = s.pins :=
  (sameOutside_deliver s j v).pins

/-- A pass is of the step of the job, or of a spare where it has none, and its check met every carrier
held. -/
def State.passes (s : State) (j : Job) (v : Verdict) : Prop :=
  Coordinated s → ∀ f m t, v = .pass f m t → s.found j f ∧ ∀ g, j.step = some g → g = f

/-- The running job completes with a verdict (R44, R63, R95, R101). -/
theorem proceeds_completeJob {s : State} {j : Job} {rest : List Job} {v : Verdict}
    (queue : s.engine.queue = j :: rest) (pass : s.passes j v) (n : Nat) :
    Proceeds s (s.completeJob j v n) := by
  have dropped : s.dropHead.engine.queue = rest := by simp [State.dropHead, queue]
  have shorter : s.engine.queue.length ≤ 12 → rest.length ≤ 12 := by
    rw [queue]
    exact fun h => (Nat.le_succ _).trans h
  have drop : Proceeds s s.dropHead :=
    ⟨rfl, .refl _, fun h => by rw [dropped]; exact shorter h, fun c => c.dropHead⟩
  unfold State.completeJob
  split
  · exact drop
  · rename_i valid
    have hv : j.void = false := Bool.not_eq_true _ ▸ valid
    have delivered : Proceeds s (s.dropHead.deliver j v) := by
      refine ⟨pins_deliver _ _ _, grown_deliver s.dropHead j v, fun h => ?_, fun c => ?_⟩
      · rw [engine_deliver, dropped]
        exact shorter h
      · obtain ⟨-, waits⟩ := c.jobs.fits j (by simp [queue]) hv
        exact coordinated_deliver c.dropHead (c.configured queue) rfl (c.unawaited_head queue hv) waits (pass c)
    simp only
    refine Proceeds.lowPoolSince ?_ n
    split
    · exact delivered.beside rfl rfl rfl rfl
    · exact delivered

theorem passes_noSpare (s : State) (j : Job) (n : Nat) : s.passes j (.noSpare n) := by
  intro _ f m t e
  cases e

/-- A check against the running job's occupied set finds a step clear of every carrier held (R46). -/
theorem found_of_check {s : State} {occ : List Party} {trial : Option Nat} {failures f m : Nat} {j : Job}
    {t : Option TermRef} (work : s.engine.work = .job occ trial failures)
    (pass : s.check occ (s.jobCandidate j f) = .pass m t) (c : Coordinated s) : s.found j f := by
  obtain ⟨keys, cov⟩ := c.covered occ trial failures work
  obtain ⟨fits, inside⟩ := fits_of_check keys pass
  exact ⟨⟨occ, fits, cov⟩, inside⟩

theorem Engine.running_eq_some_iff {e : Engine} {j : Job} {occ : List Party} {trial : Option Nat}
    {failures : Nat} : e.running = some (j, occ, trial, failures) ↔
      e.work = .job occ trial failures ∧ ∃ rest, e.queue = j :: rest := by
  unfold Engine.running
  split
  · rename_i work queue
    simp only [Option.some.injEq, Prod.mk.injEq, work, queue, Work.job.injEq, List.cons.injEq]
    constructor
    · rintro ⟨rfl, rfl, rfl, rfl⟩
      exact ⟨⟨rfl, rfl, rfl⟩, _, rfl, rfl⟩
    · rintro ⟨⟨rfl, rfl, rfl⟩, _, rfl, rfl⟩
      exact ⟨rfl, rfl, rfl, rfl⟩
  · rename_i none
    simp only [reduceCtorEq, false_iff]
    rintro ⟨work, rest, queue⟩
    exact none _ _ _ _ _ work queue

theorem proceeds_checkCompletes (s : State) : Proceeds s s.checkCompletes := by
  unfold State.checkCompletes
  split
  · rename_i j occ failures e
    obtain ⟨work, rest, queue⟩ := Engine.running_eq_some_iff.mp e
    split
    · rename_i f step
      refine proceeds_completeJob queue (fun c g m t e => ?_) _
      cases found : s.check occ (s.jobCandidate j f) with
      | fail d =>
        rw [found] at e
        cases e
      | pass m' t' =>
        rw [found] at e
        cases e
        exact ⟨found_of_check work found c, fun g hg => (Option.some.inj (step.symm.trans hg)).symm⟩
    · exact .refl s
  · exact .refl s

/-- The engine goes on with the running job's occupied set, or takes it up afresh. -/
theorem proceeds_setWork {s : State} {w : Work}
    (h : ∀ occ trial failures, w = .job occ trial failures → (Coordinated s → s.engine.heads trial)
      ∧ ((∃ trial' failures', s.engine.work = .job occ trial' failures') ∨ occ = s.occupied)) :
    Proceeds s (s.setWork w) :=
  ⟨rfl, .refl _, id, fun c => c.of_eases (t := s.setWork w) rfl (fun _ _ => id) (fun _ => .refl)
    (fun _ => id) ⟨c.jobs.fits, c.jobs.once, fun occ trial failures e => (h occ trial failures e).1 c⟩
    fun occ trial failures e => (h occ trial failures e).2⟩

theorem proceeds_trialFails {s : State} {j : Job} {occ : List Party} {slot failures n : Nat} (sp : Spare)
    {rest : List Job} (work : s.engine.work = .job occ (some slot) failures)
    (queue : s.engine.queue = j :: rest) : Proceeds s (s.trialFails j occ slot sp n) := by
  unfold State.trialFails
  simp only
  have ends : ∀ p : Pool, Proceeds s ((s.setPool p).completeJob j (.noSpare n) s.pool.clearCount) :=
    fun p => ((Proceeds.refl s).setPool p).trans
      (proceeds_completeJob (s := s.setPool p) queue (passes_noSpare _ _ _) _)
  split
  · exact ends _
  · split
    · exact ends _
    · rename_i next _
      refine Proceeds.lowPoolSince ?_ _
      refine (((Proceeds.refl s).setPool _).setPool _).trans (proceeds_setWork fun occ' trial' f' e => ?_)
      cases e
      refine ⟨fun c => ?_, .inl ⟨_, _, work⟩⟩
      obtain ⟨k, head, pool⟩ := c.jobs.runs _ _ _ work
      exact ⟨k, head, fun _ => pool rfl⟩

theorem proceeds_trialEnds (s : State) : Proceeds s s.trialEnds := by
  unfold State.trialEnds
  split
  · rename_i j occ slot failures e
    obtain ⟨work, rest, queue⟩ := Engine.running_eq_some_iff.mp e
    split
    · exact .refl s
    · rename_i sp _
      split
      · rename_i void
        have dropped := proceeds_completeJob (s := s.setPool (s.pool.mark slot .none)) queue
          (passes_noSpare _ _ 0) 0
        rw [State.completeJob, if_pos void] at dropped
        exact ((Proceeds.refl s).setPool _).trans dropped
      · split
        · rename_i m t pass
          refine ((Proceeds.refl s).setPool (s.pool.setSlot slot none)).trans
            (proceeds_completeJob (s := s.setPool (s.pool.setSlot slot none)) queue (fun c f m' t' e => ?_) _)
          cases e
          refine ⟨found_of_check (s := s.setPool (s.pool.setSlot slot none)) work pass c, fun g hg => ?_⟩
          obtain ⟨k, head, pool⟩ := c.jobs.runs _ _ _ work
          rw [State.setPool_engine, queue, List.head?_cons, Option.some.injEq] at head
          rw [head, pool rfl] at hg
          cases hg
        · exact proceeds_trialFails sp work queue
  · exact .refl s

theorem proceeds_sweepCompletes (s : State) : Proceeds s s.sweepCompletes := by
  have idle : Proceeds s (s.setWork .idle) := proceeds_setWork fun _ _ _ e => by cases e
  unfold State.sweepCompletes
  split
  · simp only
    split
    · split
      · exact (idle.setPool _).lowPoolSince _
      · exact idle
    · exact idle
  · exact .refl s

/-! ### The end of an event (R42, R43, R170, R178) -/

theorem proceeds_lookForSweep (s : State) : Proceeds s s.lookForSweep := by
  unfold State.lookForSweep
  split
  · split
    · exact ((Proceeds.refl s).setPool _).trans (proceeds_setWork fun _ _ _ e => by cases e)
    · exact (Proceeds.refl s).setPool _
  · exact .refl s

/-- A job that starts fixes the occupied set now standing (R46). -/
theorem proceeds_startJob {s : State} {j : Job} {rest : List Job} (queue : s.engine.queue = j :: rest)
    {trial : Option Nat} (pool : trial.isSome = true → j.step = none) :
    Proceeds s (s.setWork (.job s.occupied trial 0)) := by
  refine proceeds_setWork fun occ trial' failures e => ?_
  cases e
  exact ⟨fun _ => ⟨j, by rw [queue]; rfl, pool⟩, .inr rfl⟩

theorem proceeds_nextWork (n : Nat) (s : State) : Proceeds s (State.nextWork n s) := by
  induction n generalizing s with
  | zero => exact .refl s
  | succ n ih =>
    unfold State.nextWork
    split
    · exact proceeds_lookForSweep s
    · rename_i j rest queue
      split
      · exact proceeds_startJob queue (by simp)
      · rename_i pool
        split
        · rename_i slot _
          exact ((Proceeds.refl s).setPool _).trans
            (proceeds_startJob (s := s.setPool (s.pool.mark slot .trial)) queue fun _ => pool)
        · exact (proceeds_completeJob queue (passes_noSpare _ _ _) _).trans (ih _)

theorem proceeds_engineKick (s : State) : Proceeds s s.engineKick := by
  unfold State.engineKick
  split
  · exact proceeds_nextWork _ s
  · exact .refl s

theorem proceeds_radioKick (s : State) : Proceeds s s.radioKick := by
  have sent := sameButSending_radioKick s
  exact proceeds_of_yields sent.outside.pins (by rw [sent.port]; exact .refl _) sent.engine
    fun h => Link.yields_of_bearing (Link.bearing_of_lasting (sent.lasting h))

/-- What an event makes possible begins within it. -/
theorem Proceeds.finish {s t : State} (a : Proceeds s t) (s0 : State) :
    Proceeds s (State.finish s0 t) := by
  obtain ⟨m, e, -⟩ := matrixKick_eq (State.oweRoutes s0 t.engineKick.radioKick)
  rw [State.finish, e]
  exact ((a.trans (proceeds_engineKick t)).trans (proceeds_radioKick _)).beside rfl rfl rfl rfl

end Sys2Proof.Machine
end

section
/-! The end of an event leaves nothing waiting that could begin: the engine, the Radio Port and the Matrix Port
(R42, R43, R170, R178). -/

namespace Sys2Proof.Machine

open Sys2Proof

/-! ### The engine (R42, R43, R60) -/

theorem idle_completeJob (s : State) (j : Job) (v : Verdict) (n : Nat) :
    (s.completeJob j v n).engine = s.dropHead.engine := by
  unfold State.completeJob
  split
  · rfl
  · simp only
    rw [(sameButAlert_lowPoolSince n _).engine]
    split
    · exact engine_deliver _ j v
    · exact engine_deliver _ j v

theorem engineSettled_lookForSweep {s : State} (queue : s.engine.queue = []) :
    s.lookForSweep.engineSettled := by
  unfold State.lookForSweep
  split
  · split
    · exact fun idle => by cases idle
    · exact fun _ => ⟨queue, rfl⟩
  · rename_i off
    exact fun _ => ⟨queue, Bool.not_eq_true _ ▸ off⟩

/-- An idle engine with fewer than `n` jobs waiting makes its choice. -/
theorem engineSettled_nextWork {n : Nat} {s : State} (h : s.engine.queue.length < n) :
    (State.nextWork n s).engineSettled := by
  induction n generalizing s with
  | zero => exact absurd h (Nat.not_lt_zero _)
  | succ n ih =>
    unfold State.nextWork
    split
    · exact engineSettled_lookForSweep ‹_›
    · rename_i j rest queue
      split
      · exact fun idle => by cases idle
      · split
        · exact fun idle => by cases idle
        · refine ih ?_
          rw [idle_completeJob, State.dropHead, State.setEngine_engine, queue, List.tail_cons]
          simpa [queue] using h

theorem engineSettled_engineKick (s : State) : s.engineKick.engineSettled := by
  unfold State.engineKick
  split
  · exact engineSettled_nextWork (Nat.lt_succ_self _)
  · rename_i working
    exact fun idle => absurd idle working

/-! ### The transmitters (R170, R171, R178) -/

/-- A scan from a place in the table takes in every number below its size. -/
theorem mem_scanOrder {n pos i : Nat} (h : i < n) : i ∈ scanOrder n pos := by
  have hn : 0 < n := Nat.lt_of_le_of_lt (Nat.zero_le i) h
  have hm : (pos + 1) % n < n := Nat.mod_lt _ hn
  rw [scanOrder, List.mem_map]
  refine ⟨(i + n - (pos + 1) % n) % n, List.mem_range.mpr (Nat.mod_lt _ hn), ?_⟩
  have : pos + 1 + (i + n - (pos + 1) % n) = i + n * ((pos + 1) / n + 1) := by
    have := Nat.div_add_mod (pos + 1) n
    rw [Nat.mul_succ]
    omega
  rw [Nat.add_mod_mod, this, Nat.add_mul_mod_self_left, Nat.mod_eq_of_lt h]

theorem serve_sending (s : State) (h : Nat) : (s.serve h).radio.sending.isSome = true := by
  unfold State.serve
  split <;> rfl

/-- What a start of the Radio Port leaves: a message under way, or nothing that could begin. -/
theorem radioKick_settles (s : State) :
    s.radioKick.radio.sending = none → s.radioKick.radio.cts = true →
      s.radioKick.radio.planOwed = false ∧ ∀ h, h < 160 → (s.radioKick.link h).sendable = false := by
  unfold State.radioKick
  split
  · split
    · exact fun none => by cases none
    · rename_i owed
      split
      · rename_i h _
        intro none
        have := serve_sending s h
        simp [none] at this
      · rename_i none
        refine fun _ _ => ⟨Bool.not_eq_true _ ▸ owed, fun h lt => ?_⟩
        simpa using List.find?_eq_none.mp none h (mem_scanOrder lt)
  · rename_i held
    intro none cts
    simp [none, cts] at held

theorem matrixSettled_matrixKick (s : State) : s.matrixKick.matrixSettled := by
  unfold State.matrixKick
  split
  · split
    · exact fun none => by cases none
    · rename_i none
      intro _ id lt
      simpa using List.find?_eq_none.mp none id (mem_scanOrder lt)
  · rename_i busy
    intro none
    simp [none] at busy

/-! ### The whole part -/

theorem settled_finish (s0 : State) {s : State} (live : s.pins.inReset = false) :
    (State.finish s0 s).settled := by
  have pins : (State.finish s0 s).pins = s.pins := (sameOutside_finish s0 s).pins
  refine ⟨?_, ?_, matrixSettled_matrixKick _⟩
  · unfold State.engineSettled
    rw [finish_engine, finish_pool]
    exact engineSettled_engineKick s
  · intro sending level
    rw [pins, live] at level
    obtain ⟨m, e, -⟩ := matrixKick_eq (State.oweRoutes s0 s.engineKick.radioKick)
    rw [State.finish, e] at sending level ⊢
    exact radioKick_settles s.engineKick sending (level.resolve_right (by decide))

/-- Nothing that could begin has been added by work that ends with no look for it. -/
structure Undisturbed (s t : State) : Prop where
  work : t.engine.work = s.engine.work
  queue : t.engine.queue = s.engine.queue
  sweep : s.pool.sweepWanted = false → t.pool.sweepWanted = false
  sendable : ∀ h, (t.link h).sendable = (s.link h).sendable
  planOwed : t.radio.planOwed = s.radio.planOwed
  sending : t.radio.sending = s.radio.sending
  cts : t.radio.cts = s.radio.cts
  owed : t.mtx.owed = s.mtx.owed
  route : t.mtx.sending = s.mtx.sending
  pins : t.pins.inReset = s.pins.inReset

theorem Undisturbed.settled {s t : State} (u : Undisturbed s t) (h : s.settled) : t.settled := by
  obtain ⟨engine, radio, matrix⟩ := h
  refine ⟨fun idle => ?_, fun none level => ?_, fun none id lt => ?_⟩
  · obtain ⟨queue, sweep⟩ := engine (u.work ▸ idle)
    exact ⟨u.queue.trans queue, u.sweep sweep⟩
  · rw [u.cts, u.pins] at level
    obtain ⟨owed, sendable⟩ := radio (u.sending ▸ none) level
    exact ⟨u.planOwed.trans owed, fun h lt => (u.sendable h).trans (sendable h lt)⟩
  · rw [u.owed]
    exact matrix (u.route ▸ none) id lt

theorem undisturbed_of {s t : State} (links : t.links = s.links) (engine : t.engine = s.engine)
    (sweep : t.pool.sweepWanted = s.pool.sweepWanted) (radio : t.radio = s.radio) (mtx : t.mtx = s.mtx)
    (pins : t.pins = s.pins) : Undisturbed s t :=
  ⟨by rw [engine], by rw [engine], fun h => sweep.trans h, fun h => by simp only [State.link, links],
    by rw [radio], by rw [radio], by rw [radio], by rw [mtx], by rw [mtx], by rw [pins]⟩

theorem Undisturbed.refl (s : State) : Undisturbed s s := undisturbed_of rfl rfl rfl rfl rfl rfl

/-- A record that offers no more to send than before. -/
theorem undisturbed_setLink {s : State} {h : Nat} {l : Link} (e : l.sendable = (s.link h).sendable) :
    Undisturbed s (s.setLink h l) := by
  refine ⟨rfl, rfl, id, fun g => ?_, rfl, rfl, rfl, rfl, rfl, rfl⟩
  rw [State.link_setLink]
  split
  · rename_i own
    rw [own.1]
    exact e
  · rfl

/-! ### What a command does in the part -/

/-- What a command leaves of the state it found, the Control Port's own work apart: the end of an event, or a
state in which nothing could begin that could not before. -/
inductive Deed (s : State) : State → Prop
  | event (s0 : State) {u : State} (live : s.pins.inReset = false) (work : Proceeds s u) :
    Deed s (State.finish s0 u)
  | quiet {t : State} (work : Proceeds s t) (undisturbed : Undisturbed s t) : Deed s t

theorem Deed.refl (s : State) : Deed s s := .quiet (.refl s) (.refl s)

theorem Deed.proceeds {s t : State} (d : Deed s t) : Proceeds s t := by
  cases d with
  | event s0 _ work => exact work.finish s0
  | quiet work _ => exact work

theorem Deed.settled {s t : State} (d : Deed s t) (h : s.settled) : t.settled := by
  cases d with
  | event s0 live work => exact settled_finish s0 (by rw [work.pins]; exact live)
  | quiet _ undisturbed => exact undisturbed.settled h

/-- A deed in a state that differs from `s` in nothing a deed looks at. -/
theorem Deed.after {s t u : State} (work : Proceeds s t) (undisturbed : Undisturbed s t) (d : Deed t u) :
    Deed s u := by
  cases d with
  | event s0 live w => exact .event s0 (by rw [← undisturbed.pins]; exact live) (work.trans w)
  | quiet w v =>
    exact .quiet (work.trans w) ⟨v.work.trans undisturbed.work, v.queue.trans undisturbed.queue,
      fun h => v.sweep (undisturbed.sweep h), fun h => (v.sendable h).trans (undisturbed.sendable h),
      v.planOwed.trans undisturbed.planOwed, v.sending.trans undisturbed.sending,
      v.cts.trans undisturbed.cts, v.owed.trans undisturbed.owed, v.route.trans undisturbed.route,
      v.pins.trans undisturbed.pins⟩

/-- A deed in blocks whose work begins nothing. -/
theorem Deed.beside {s t : State} (pins : t.pins = s.pins) (port : t.port = s.port)
    (engine : t.engine = s.engine) (links : t.links = s.links)
    (sweep : t.pool.sweepWanted = s.pool.sweepWanted) (radio : t.radio = s.radio) (mtx : t.mtx = s.mtx) :
    Deed s t :=
  .quiet (proceeds_beside pins port engine links) (undisturbed_of links engine sweep radio mtx pins)

/-- A deed at one record, which offers no more to send than before. -/
theorem Deed.setLink {s : State} {h : Nat} {l : Link} (y : (s.link h).Yields l)
    (e : l.sendable = (s.link h).sendable) : Deed s (s.setLink h l) :=
  .quiet (proceeds_setLink y) (undisturbed_setLink e)

end Sys2Proof.Machine
end

section
/-! What each request's owner does in the part, as a deed (chapters 1 to 10). -/

namespace Sys2Proof.Machine

open Sys2Proof

/-- An owner whose answer is a deed, in a part out of reset that is CONFIGURED or need not be. -/
def Works {α : Type} (always : Bool) (own : α → State → Answer) : Prop :=
  ∀ a s, s.pins.inReset = false → always = true ∨ s.configured = true → Deed s (own a s).state

theorem ReadsOnly.works {α : Type} {own : α → State → Answer} (r : ReadsOnly own) (always : Bool) :
    Works always own := by
  intro a s _ _
  rw [r a s]
  exact .refl s

theorem Deed.ite {s : State} {p : Prop} [Decidable p] {a b : Answer} (ha : p → Deed s a.state)
    (hb : ¬ p → Deed s b.state) : Deed s (if p then a else b).state := by
  split
  · exact ha ‹_›
  · exact hb ‹_›

theorem deed_withLink {s : State} {h : Nat} {argsOk : Bool} {k : Link → Answer}
    (hk : h < 160 → (s.link h).state ≠ .free → Deed s (k (s.link h)).state) :
    Deed s (s.withLink h argsOk k).state :=
  .ite (fun _ => .refl s) fun ok => .ite (fun _ => .refl s) fun occupied => by
    have ok : handleOk h = true ∧ argsOk = true := by simpa using ok
    exact hk (Nat.lt_succ_of_le ((handleOk_iff h).mp ok.1)) occupied

theorem deed_whileWaiting {s : State} {h : Nat} {k : Link → Answer}
    (hk : h < 160 → (s.link h).state = .retuneWait → Deed s (k (s.link h)).state) :
    Deed s (s.whileWaiting h k).state :=
  deed_withLink fun lt _ => .ite (fun _ => .refl s) fun _ => .ite (fun _ => .refl s) fun waiting =>
    hk lt (by simpa using waiting)

theorem deed_withReferral {s : State} {h : Nat} {argsOk : Bool} {k : Link → Answer}
    (hk : h < 160 → (s.link h).state = .referred → Deed s (k (s.link h)).state) :
    Deed s (s.withReferral h argsOk k).state :=
  .ite (fun _ => .refl s) fun ok => .ite (fun _ => .refl s) fun referred => by
    have ok : handleOk h = true ∧ argsOk = true := by simpa using ok
    exact hk (Nat.lt_succ_of_le ((handleOk_iff h).mp ok.1)) (by simpa using referred)

/-! ### Chapter 1 -/

theorem occupied_eq_nil {s t : State} (links : t.links = s.links) (none : s.occupied = []) :
    t.occupied = [] := by
  refine List.eq_nil_iff_forall_not_mem.mpr fun a ha => ?_
  obtain ⟨h, lt, ha⟩ := (t.mem_occupied a).mp ha
  obtain ⟨o, f, held, -⟩ := mem_members_iff.mp ha
  have link : t.link h = s.link h := by simp only [State.link, links]
  have : (s.link h).member s.engine.prof h o f ∈ s.occupied :=
    (s.mem_occupied _).mpr ⟨h, lt, mem_members_iff.mpr ⟨o, f, link ▸ held, rfl⟩⟩
  simp [none] at this

/-- A profile is installed where nothing is held and no job waits (R5, R6). -/
theorem proceeds_installProfile {s : State} (h : s.configured = false ∨ s.reloadable = true) (p : Profile) :
    Proceeds s (s.installProfile p) := by
  refine ⟨rfl, .refl _, id, fun c => ?_⟩
  have empty : s.occupied = [] ∧ s.engine.queue = [] := by
    rcases h with off | reloadable
    · exact c.blank off
    · obtain ⟨none, -, queue⟩ := s.reloadable_iff.mp reloadable
      exact ⟨none, queue⟩
  obtain ⟨none, queue⟩ := empty
  have none' : (s.installProfile p).occupied = [] := occupied_eq_nil (s := s) rfl none
  have queue' : (s.installProfile p).engine.queue = [] := queue
  have unwork : ∀ occ trial failures, s.engine.work ≠ .job occ trial failures := by
    intro occ trial failures w
    obtain ⟨j, head, -⟩ := c.jobs.runs _ _ _ w
    simp [queue] at head
  refine ⟨⟨?_, ?_, ?_⟩, (fun off => by cases off), ⟨?_, ?_, ?_⟩, c.plain, ?_⟩
  · simp [none']
  · simp [none']
  · simp [none']
  · simp [queue']
  · simp [Engine.awaited, queue']
  · exact fun occ trial failures w => absurd w (unwork occ trial failures)
  · exact fun occ trial failures w => absurd w (unwork occ trial failures)

theorem works_loadProfile : Works true ownLoadProfile := by
  intro a s _ _
  unfold ownLoadProfile
  split
  · exact .refl s
  · refine .ite (fun _ => .refl s) fun ok => ?_
    have ready : s.configured = false ∨ s.reloadable = true := by
      cases on : s.configured <;> simp_all
    exact .quiet (proceeds_installProfile ready _) ⟨rfl, rfl, fun _ => rfl, fun _ => rfl, rfl, rfl, rfl, rfl,
      rfl, rfl⟩

/-- The Blocked-Channel Map is replaced by one under which the carriers held stay in bounds (R15, R16). -/
theorem proceeds_setBlocked {s : State} {m : Tab 96 Bool}
    (h : ∀ a, a ∈ s.occupied → s.engine.prof.unblocked s.engine.blocked a 96 →
      s.engine.prof.unblocked m a 96) : Proceeds s (s.setEngine { s.engine with blocked := m }) := by
  refine ⟨rfl, .refl _, id, fun c => c.of_eases (t := s.setEngine { s.engine with blocked := m }) rfl
    (fun a ha inside => ?_) (fun _ => .refl) (fun _ => id) ⟨c.jobs.fits, c.jobs.once, c.jobs.runs⟩
    fun occ trial failures w => .inl ⟨trial, failures, w⟩⟩
  obtain ⟨span, blocked⟩ := inside
  exact ⟨span, (firstBlocked_eq_none_iff _ _ a).mpr (h a ha ((firstBlocked_eq_none_iff _ _ a).mp blocked))⟩

theorem proceeds_block {s : State} {k : Nat} (free : s.lowestTouching k = none) :
    Proceeds s (s.setEngine { s.engine with blocked := s.engine.blocked.set k true }) := by
  refine proceeds_setBlocked fun a ha old i lt blocked => ?_
  rw [Tab.get_set] at blocked
  split at blocked
  · rename_i own
    rw [own.1]
    simpa using List.find?_eq_none.mp free a ha
  · exact old i lt blocked

theorem proceeds_unblock (s : State) (k : Nat) :
    Proceeds s (s.setEngine { s.engine with blocked := s.engine.blocked.set k false }) := by
  refine proceeds_setBlocked fun a _ old i lt blocked => ?_
  rw [Tab.get_set] at blocked
  split at blocked
  · cases blocked
  · exact old i lt blocked

theorem Undisturbed.trans {s t u : State} (a : Undisturbed s t) (b : Undisturbed t u) : Undisturbed s u :=
  ⟨b.work.trans a.work, b.queue.trans a.queue, fun h => b.sweep (a.sweep h),
    fun h => (b.sendable h).trans (a.sendable h), b.planOwed.trans a.planOwed, b.sending.trans a.sending,
    b.cts.trans a.cts, b.owed.trans a.owed, b.route.trans a.route, b.pins.trans a.pins⟩

theorem undisturbed_evalLowPool (s : State) : Undisturbed s s.evalLowPool := by
  unfold State.evalLowPool
  split
  · exact undisturbed_of rfl rfl rfl rfl rfl rfl
  · split
    · exact undisturbed_of rfl rfl rfl rfl rfl rfl
    · exact .refl s

theorem undisturbed_lowPoolSince (n : Nat) (s : State) : Undisturbed s (s.lowPoolSince n) := by
  unfold State.lowPoolSince
  split
  · exact .refl s
  · exact undisturbed_evalLowPool s

theorem works_block : Works false ownBlock := by
  intro k s _ _
  refine .ite (fun _ => .refl s) fun _ => .ite (fun _ => .refl s) fun _ => ?_
  split
  · exact .refl s
  · rename_i free
    refine .quiet (((proceeds_block free).setPool _).lowPoolSince _) (.trans ?_ (undisturbed_lowPoolSince _ _))
    exact ⟨rfl, rfl, id, fun _ => rfl, rfl, rfl, rfl, rfl, rfl, rfl⟩

theorem works_unblock : Works false ownUnblock := fun k s live _ =>
  .ite (fun _ => .refl s) fun _ => .ite (fun _ => .event s live ((proceeds_unblock s k).setPool _))
    fun _ => .refl s

/-! ### Chapter 2 -/

theorem works_setLabel : Works false ownSetLabel := fun _ s _ _ => deed_withLink fun _ _ =>
  .ite (fun _ => .refl s) fun _ => .ite (fun _ => .refl s) fun _ => .ite (fun _ => .refl s) fun _ =>
    .setLink (Link.yields_of_bearing rfl) rfl

theorem works_setPolicy : Works false ownSetPolicy := fun _ s _ _ => deed_withLink fun _ _ =>
  .ite (fun _ => .refl s) fun _ => .setLink (Link.yields_of_bearing rfl) rfl

/-! ### Chapter 4: requests that offer jobs -/

/-- A record that becomes RECHECK holds its carrier alone. -/
theorem Link.eases_recheck {l m : Link} (occupied : l.state.occupied = true) (state : m.state = .recheck)
    (carrier : m.carrier = l.carrier) (cls : m.cls = l.cls) (zones : m.zones = l.zones) : l.Eases m := by
  refine ⟨Link.plain_of_state (by simp [state]) (by simp [state]), fun f hf => ⟨.inl ⟨occupied, ?_⟩,
    by rw [cls], zones⟩⟩
  rcases hf with ⟨-, hf⟩ | ⟨hf, -⟩
  · exact carrier ▸ hf
  · rw [state] at hf
    cases hf

theorem Link.occupied_of_active {l : Link} (h : l.state = .active ∨ l.state = .referred) :
    l.state.occupied = true ∧ l.state ≠ .checking ∧ l.state ≠ .recheck := by
  rcases h with h | h
  all_goals exact h ▸ ⟨rfl, by decide, by decide⟩

theorem proceeds_admit {s : State} (on : s.configured = true) (full : s.engine.full = false) {h : Nat}
    (found : s.lowestFree = some h) (a : AdmitArgs) :
    Proceeds s ((s.setLink h (Link.checking a)).offer (admitJob h a)) := by
  obtain ⟨lt, free, -⟩ := (s.findLink_eq_some_iff _ h).mp found
  have free : (s.link h).state = .free := by simpa using free
  refine proceeds_offer on full lt rfl ⟨rfl, .inl ⟨rfl, rfl⟩⟩ (by simp [free]) (by simp [free])
    fun _ => ⟨Link.plain_of_state (fun e => by cases e) (fun e => by cases e), fun f hf => ?_⟩
  rcases hf with ⟨hf, -⟩ | ⟨hf, -⟩
  · cases hf
  · cases hf

theorem works_admit : Works false ownAdmit := by
  intro a s live on
  refine .ite (fun _ => .refl s) fun _ => .ite (fun _ => .refl s) fun _ => ?_
  split
  · exact .refl s
  · rename_i h found
    exact .ite (fun _ => .refl s) fun full =>
      .event s live (proceeds_admit (by simpa using on) (by simpa using full) found a)

theorem proceeds_askRetune {s : State} (on : s.configured = true) (full : s.engine.full = false) {h : Nat}
    (lt : h < 160) (state : (s.link h).state = .active ∨ (s.link h).state = .referred) {kind : JobKind}
    (move : kind ≠ .move) (step : Option Nat) (forced : Bool) :
    Proceeds s (s.askRetune h (s.link h) kind step forced) := by
  obtain ⟨occupied, checking, recheck⟩ := Link.occupied_of_active state
  refine proceeds_offer on full lt rfl ⟨rfl, .inr ⟨rfl, ?_⟩⟩ checking recheck
    fun _ => Link.eases_recheck occupied rfl rfl rfl rfl
  rw [if_neg (by simpa [Link.toRecheck] using move)]
  rfl

theorem works_retune : Works false ownRetune := fun a s live on => deed_withLink fun lt _ =>
  .ite (fun _ => .refl s) fun state => .ite (fun _ => .refl s) fun full =>
    .event s live (proceeds_askRetune (by simpa using on) (by simpa using full) lt
      (by by_contra c; exact state (not_or.mp c)) (by unfold retuneKind; split <;> decide) _ _)

theorem works_moveZones : Works false ownMoveZones := by
  refine fun a s live on => deed_withLink fun lt _ => .ite (fun _ => .refl s) fun state =>
    .ite (fun _ => .refl s) fun full => .event s live ?_
  have active : (s.link a.handle).state = .active := by simpa using state
  obtain ⟨occupied, checking, recheck⟩ := Link.occupied_of_active (.inl active)
  refine proceeds_offer (by simpa using on) (by simpa using full) lt rfl ⟨rfl, .inr ⟨rfl, ?_⟩⟩ checking
    recheck fun _ => Link.eases_recheck occupied rfl rfl rfl rfl
  rw [if_pos rfl]
  refine ⟨rfl, fun f hf => ?_⟩
  have carrier : (s.link a.handle).carrier = some f := hf
  simp [Link.moveJob, Link.jobOf, carrier]

theorem works_answerReferral : Works false ownAnswerReferral := fun a s live on => deed_withReferral
  fun lt referred => .ite (fun _ => .refl s) fun full =>
    .event s live (proceeds_askRetune (by simpa using on) (by simpa using full) lt (.inr referred)
      (by decide) _ _)

/-! ### Chapter 4: other requests at a link -/

/-- A record that holds no carrier more and waits for no job. -/
theorem Link.yields_of_holds {l m : Link} (checking : l.state ≠ .checking) (recheck : l.state ≠ .recheck)
    (plain : l.plain → m.plain) (cls : m.cls = l.cls) (zones : m.zones = l.zones)
    (holds : ∀ f, m.holds f → l.holds f) : l.Yields m :=
  Link.yields_of_eases checking recheck fun p => ⟨plain p, fun f hf => ⟨holds f hf, by rw [cls], zones⟩⟩

theorem Link.yields_cancelled {l : Link} (h : l.state = .retuneWait) :
    l.Yields { l with state := .active, target := none, forced := false } := by
  refine Link.yields_of_holds (by simp [h]) (by simp [h]) (fun _ _ => rfl) rfl rfl fun f hf => ?_
  simp_all [Link.holds, LinkState.occupied, LinkState.holdsTarget]

theorem Link.yields_tuneNow {l : Link} (h : l.state = .retuneWait) (order : Option Order)
    (timer : Option Timer) (forced : Bool) :
    l.Yields { l with state := .settling, forced := forced, order := order, timer := timer } := by
  refine Link.yields_of_holds (by simp [h]) (by simp [h])
    (fun _ => Link.plain_of_state (fun e => by cases e) (fun e => by cases e)) rfl rfl fun f hf => ?_
  simp_all [Link.holds, LinkState.occupied, LinkState.holdsTarget]

theorem works_cancelRetune : Works false ownCancelRetune := fun _ s live _ => deed_whileWaiting
  fun _ waiting => .event s live ((proceeds_setLink (Link.yields_cancelled waiting)).setPool _)

theorem works_tuneNow : Works false ownTuneNow := fun _ s live _ => deed_whileWaiting
  fun _ waiting => .event s live (proceeds_setLink (Link.yields_tuneNow waiting _ _ _))

/-- A link leaves REFERRED for ACTIVE (R108, R109). -/
theorem Link.yields_declined {l : Link} (h : l.state = .referred) :
    l.Yields { l with state := .active, timer := none } := by
  refine Link.yields_of_holds (by simp [h]) (by simp [h]) (fun p _ => p (.inr h)) rfl rfl fun f hf => ?_
  simp_all [Link.holds, LinkState.occupied, LinkState.holdsTarget]

theorem works_declineReferral : Works false ownDeclineReferral := fun _ _ _ _ => deed_withReferral
  fun _ referred => .setLink (Link.yields_declined referred)
    (by simp [Link.sendable, referred, LinkState.lampMayGo])

/-- What RETIRE may find at a link that does not wait for a job: it keeps its carriers into RELEASING. -/
theorem Link.yields_releasing {l : Link} (h : l.state = .active ∨ l.state = .referred ∨ l.state = .settling
    ∨ l.state = .reverting ∨ l.state = .lost) : l.Yields l.releasing := by
  have state : l.state ≠ .free ∧ l.state ≠ .checking ∧ l.state ≠ .recheck := by
    rcases h with h | h | h | h | h <;> simp [h]
  refine Link.yields_of_eases state.2.1 state.2.2 fun p => Link.eases_releasing ⟨state.1, state.2.1⟩
    (fun p f target => ?_) p
  rcases h with h | h | h | h | h
  · rw [p (.inl h)] at target
    cases target
  · rw [p (.inr h)] at target
    cases target
  all_goals
    rw [h]
    rfl

/-- A link that enters RELEASING without its target keeps its carrier alone. -/
theorem Link.eases_releasing_dropped {l : Link} (h : l.state.occupied = true) (job : Option JobKind) :
    l.Eases (Link.releasing { l with target := none, job := job }) := by
  refine ⟨Link.plain_of_state (fun e => by cases e) (fun e => by cases e),
    fun f hf => ⟨.inl ⟨h, ?_⟩, rfl, rfl⟩⟩
  rcases hf with ⟨-, hf⟩ | ⟨-, hf⟩
  · exact hf
  · cases hf

theorem proceeds_retireChecking (s : State) (h : Nat) : Proceeds s (s.retireChecking h) :=
  (((proceeds_voidJob fun _ => (s.link h).eases_free).setPool _).setTalk _).restandAll

theorem proceeds_retireRecheck {s : State} {h : Nat} (recheck : (s.link h).state = .recheck) :
    Proceeds s (s.retireRecheck h (s.link h)) :=
  Proceeds.enterReleasing (proceeds_voidJob fun _ => Link.eases_releasing_dropped (by rw [recheck]; rfl) _)

theorem proceeds_retireWaiting {s : State} {h : Nat} (waiting : (s.link h).state = .retuneWait) :
    Proceeds s (s.retireWaiting h (s.link h)) :=
  (Proceeds.enterReleasing (proceeds_setLink (Link.yields_of_eases (by simp [waiting]) (by simp [waiting])
    fun _ => Link.eases_releasing_dropped (by rw [waiting]; rfl) _))).setPool _

theorem works_retire : Works false ownRetire := by
  refine fun a s live _ => deed_withLink fun _ _ => ?_
  have releasing := fun state => Proceeds.enterReleasing
    (proceeds_setLink (Link.yields_releasing (l := s.link a.handle) state))
  unfold retireBy
  cases state : (s.link a.handle).state with
  | free | releasing => exact .refl s
  | checking => exact .event s live (proceeds_retireChecking s _)
  | recheck => exact .ite (fun _ => .refl s) fun _ => .event s live (proceeds_retireRecheck state)
  | retuneWait => exact .ite (fun _ => .refl s) fun _ => .event s live (proceeds_retireWaiting state)
  | lost => exact .event s live (releasing (by simp [state]))
  | active | referred | settling | reverting =>
    exact .ite (fun _ => .refl s) fun _ => .event s live (releasing (by simp [state]))

theorem works_discard : Works false ownDiscard := fun a s live _ => deed_withLink fun _ _ =>
  .ite (fun _ => .refl s) fun lost => by
    have lost : (s.link a).state = .lost := by simpa using lost
    exact .event s live (proceeds_enterFree (by simp [lost]) (by simp [lost]))

/-! ### Chapter 5 -/

theorem works_seedSpare : Works false ownSeedSpare := by
  intro a s live _
  refine .ite (fun _ => .refl s) fun _ => .ite (fun _ => .refl s) fun _ => ?_
  split
  · exact .refl s
  · exact .event s live (((Proceeds.refl s).setPool _).setPool _)

theorem works_dropSpare : Works false ownDropSpare := by
  intro slot s _ _
  refine .ite (fun _ => .refl s) fun _ => ?_
  split
  · exact .refl s
  · refine .ite (fun _ => .refl s) fun _ => .quiet (((Proceeds.refl s).setPool _).lowPoolSince _)
      (.trans ?_ (undisturbed_lowPoolSince _ _))
    exact undisturbed_of rfl rfl rfl rfl rfl rfl

theorem works_setPoolThreshold : Works false ownSetPoolThreshold := by
  intro n s _ _
  refine .quiet ((Proceeds.refl s).setPool _).evalLowPool (.trans ?_ (undisturbed_evalLowPool _))
  exact undisturbed_of rfl rfl rfl rfl rfl rfl

/-! ### Chapter 6 -/

theorem Link.yields_resolved (t : TallyBlock) (l : Link) : l.Yields (l.resolved t) := by
  rw [Link.resolved, Link.oweLamp_eq]
  exact Link.yields_of_bearing rfl

theorem Link.yields_onAirChange (l : Link) (on : Bool) : l.Yields (l.onAirChange on) := by
  unfold Link.onAirChange
  split
  · rename_i waiting
    exact Link.yields_tuneNow waiting _ _ l.forced
  · rename_i settling
    split
    · refine Link.yields_of_holds (by simp [settling]) (by simp [settling])
        (fun _ => Link.plain_of_state (fun e => by cases e) (fun e => by cases e)) rfl rfl fun f hf => ?_
      simp_all [Link.holds, LinkState.occupied, LinkState.holdsTarget]
    · exact .refl l
  · exact .refl l

/-- A change at the Tally Resolver ends as an event does, its on-air changes delivered (R124). -/
theorem deed_afterTally {s t : State} (s0 : State) (live : s.pins.inReset = false) (a : Proceeds s t) :
    Deed s (State.afterTally s0 t) := by
  refine .event s0 live (Proceeds.restandAll (a.trans (proceeds_mapLinks t fun h l => ?_)))
  split
  · exact .refl l
  · exact Link.yields_onAirChange l _

theorem proceeds_changeSource (s : State) (x : Source) (v : Src) : Proceeds s (s.changeSource x v) := by
  have changed : Proceeds s (s.setTally (s.tally.setSrc x v)) := proceeds_beside rfl rfl rfl rfl
  refine changed.trans (proceeds_mapLinks _ fun h l => ?_)
  split
  · exact Link.yields_resolved _ l
  · exact .refl l

theorem works_loadTallyMap : Works false ownLoadTallyMap := by
  intro a s live _
  unfold ownLoadTallyMap
  split
  · exact .refl s
  · rename_i m _
    have installed : Proceeds s (s.installMap m) := proceeds_beside rfl rfl rfl rfl
    exact deed_afterTally s live (installed.trans (proceeds_mapLinks _ fun _ l => Link.yields_resolved _ l))

theorem works_clearSource : Works false ownClearSource := by
  intro n s live _
  unfold ownClearSource
  split
  · exact .refl s
  · exact .ite (fun _ => deed_afterTally s live (proceeds_changeSource s _ _)) fun _ => .refl s

/-- One record's controls replaced and the record recomputed (R121, R122, R125, R127). -/
theorem proceeds_controlEvent {s : State} {h : Nat} {l : Link} (e : l.bearing = (s.link h).bearing) :
    Proceeds s (s.controlEvent h l) :=
  (proceeds_setLink (Link.yields_of_bearing e)).trans (proceeds_setLink (Link.yields_resolved _ _))

theorem works_bind : Works false ownBind := by
  intro a s live _
  unfold ownBind
  split
  · exact .refl s
  · refine deed_withLink fun _ _ => .ite (fun _ => .refl s) fun _ => .ite (fun _ => .refl s) fun _ => ?_
    split
    · exact .refl s
    · exact .ite (fun _ => .refl s) fun _ => deed_afterTally s live (proceeds_controlEvent rfl)

theorem works_unbind : Works false ownUnbind := by
  intro a s live _
  unfold ownUnbind
  split
  · exact .refl s
  · split
    · exact .refl s
    · exact deed_afterTally s live (proceeds_controlEvent rfl)

theorem works_holdLive : Works false ownHoldLive := fun _ s live _ => deed_withLink fun _ _ =>
  .ite (fun _ => .refl s) fun _ => .ite (fun _ => .refl s) fun _ =>
    deed_afterTally s live (proceeds_controlEvent rfl)

theorem works_suppress : Works false ownSuppress := fun _ s live _ => deed_withLink fun _ _ =>
  .ite (fun _ => .refl s) fun _ => .ite (fun _ => .refl s) fun _ =>
    deed_afterTally s live (proceeds_controlEvent rfl)

/-! ### Chapter 7 -/

/-- Work at the Talk Arbiter begins nothing by itself. -/
theorem Deed.setTalk (s : State) (x : Talk) : Deed s (s.setTalk x) := .beside rfl rfl rfl rfl rfl rfl rfl

theorem works_defineKey : Works false ownDefineKey := by
  intro a s _ _
  unfold ownDefineKey
  split
  · exact .refl s
  · refine .ite (fun _ => .refl s) fun _ => ?_
    split
    · exact .refl s
    · split
      · exact .refl s
      · exact .setTalk s _

theorem works_deleteKey : Works false ownDeleteKey := by
  refine fun k s _ _ => .ite (fun _ => .refl s) fun _ => ?_
  split
  · exact .refl s
  · exact .ite (fun _ => .refl s) fun _ => .setTalk s _

theorem works_defineDest : Works false ownDefineDest := by
  intro a s _ _
  unfold ownDefineDest
  split
  · exact .refl s
  · split
    · exact .refl s
    · exact .ite (fun _ => .refl s) fun _ => .setTalk s _

theorem deed_changeDest {s : State} (live : s.pins.inReset = false) (id : Nat) (f : Dest → Dest) :
    Deed s (s.changeDest id f) :=
  .event s live (((Proceeds.refl s).setTalk _).restandOne id)

theorem works_setTarget : Works false ownSetTarget := by
  refine fun a s live _ => .ite (fun _ => .refl s) fun _ => ?_
  split
  · exact .refl s
  · exact deed_changeDest live _ _

theorem works_setWatch : Works false ownSetWatch := by
  refine fun a s live _ => .ite (fun _ => .refl s) fun _ => ?_
  split
  · exact .refl s
  · exact deed_changeDest live _ _

theorem works_deleteDest : Works false ownDeleteDest := by
  refine fun id s _ _ => .ite (fun _ => .refl s) fun _ => ?_
  split
  · exact .refl s
  · exact .ite (fun _ => .refl s) fun _ => .setTalk s _

theorem works_setLast : Works false ownSetLast := by
  refine fun k s _ _ => .ite (fun _ => .refl s) fun _ => ?_
  split
  · exact .refl s
  · exact .setTalk s _

theorem works_clearTalk : Works false ownClearTalk :=
  fun _ s live _ => .event s live ((Proceeds.refl s).setTalk _)

/-! ### Chapters 8 and 10 -/

/-- Work at the Frame Plan begins nothing by itself. -/
theorem Deed.setPlans (s : State) (x : Plans) : Deed s (s.setPlans x) := .beside rfl rfl rfl rfl rfl rfl rfl

theorem works_stageDown : Works false ownStageDown := fun _ s _ _ =>
  .ite (fun _ => .refl s) fun _ => .ite (fun _ => .refl s) fun _ => .setPlans s _

theorem deed_stagePack (s : State) (h : Nat) (argsOk : Bool) (f : Pack → Pack) :
    Deed s (s.stagePack h argsOk f).state :=
  .ite (fun _ => .refl s) fun _ => .ite (fun _ => .refl s) fun _ => .ite (fun _ => .refl s) fun _ =>
    .ite (fun _ => .refl s) fun _ => .setPlans s _

theorem works_stageListen : Works false ownStageListen := fun _ s _ _ => deed_stagePack s _ _ _

theorem works_stageUp : Works false ownStageUp := fun _ s _ _ => deed_stagePack s _ _ _

theorem works_commit : Works false ownCommit := by
  refine fun _ s _ _ => .ite (fun _ => .refl s) fun _ => ?_
  split
  · exact .refl s
  · exact .setPlans s _

theorem works_discardPlan : Works false ownDiscardPlan := fun _ s _ _ => .setPlans s _

theorem works_readSummary : Works true ownReadSummary := fun _ _ _ _ =>
  .quiet (proceeds_of_yields rfl ⟨rfl, rfl, rfl, List.prefix_refl _, id⟩ rfl fun _ => .refl _)
    (undisturbed_of rfl rfl rfl rfl rfl rfl)

/-! ### Every request -/

/-- A command is taken under code `n` by an owner whose answer is a deed. -/
def TakenToWork (c : Instr) (n : Nat) : Prop :=
  ∃ (α : Type) (b : ReqBody α) (always : Bool) (own : α → State → Answer), Works always own
    ∧ ∀ s, exec c s = .next (s.take n always b own)

/-- A request that is no lookup is of an unknown code, or goes to an owner whose answer is a deed. -/
theorem writer_takenToWork {c : Instr} {n : Nat} {ok : Bool} (hl : c.lookup = false)
    (h : c.request = some (n, ok)) : c = .unrecognisedRequest n ∨ TakenToWork c n := by
  cases c
  all_goals cases hl
  all_goals cases h
  case unrecognisedRequest => exact .inl rfl
  all_goals right
  case loadProfile b => exact ⟨_, b, _, _, works_loadProfile, fun _ => rfl⟩
  case block b => exact ⟨_, b, _, _, works_block, fun _ => rfl⟩
  case unblock b => exact ⟨_, b, _, _, works_unblock, fun _ => rfl⟩
  case setLabel b => exact ⟨_, b, _, _, works_setLabel, fun _ => rfl⟩
  case setPolicy b => exact ⟨_, b, _, _, works_setPolicy, fun _ => rfl⟩
  case admitLink b => exact ⟨_, b, _, _, works_admit, fun _ => rfl⟩
  case retune b => exact ⟨_, b, _, _, works_retune, fun _ => rfl⟩
  case moveZones b => exact ⟨_, b, _, _, works_moveZones, fun _ => rfl⟩
  case cancelRetune b => exact ⟨_, b, _, _, works_cancelRetune, fun _ => rfl⟩
  case tuneNow b => exact ⟨_, b, _, _, works_tuneNow, fun _ => rfl⟩
  case retire b => exact ⟨_, b, _, _, works_retire, fun _ => rfl⟩
  case discard b => exact ⟨_, b, _, _, works_discard, fun _ => rfl⟩
  case seedSpare b => exact ⟨_, b, _, _, works_seedSpare, fun _ => rfl⟩
  case dropSpare b => exact ⟨_, b, _, _, works_dropSpare, fun _ => rfl⟩
  case setPoolThreshold b => exact ⟨_, b, _, _, works_setPoolThreshold, fun _ => rfl⟩
  case answerReferral b => exact ⟨_, b, _, _, works_answerReferral, fun _ => rfl⟩
  case declineReferral b => exact ⟨_, b, _, _, works_declineReferral, fun _ => rfl⟩
  case loadTallyMap b => exact ⟨_, b, _, _, works_loadTallyMap, fun _ => rfl⟩
  case clearSource b => exact ⟨_, b, _, _, works_clearSource, fun _ => rfl⟩
  case bind b => exact ⟨_, b, _, _, works_bind, fun _ => rfl⟩
  case unbind b => exact ⟨_, b, _, _, works_unbind, fun _ => rfl⟩
  case holdLive b => exact ⟨_, b, _, _, works_holdLive, fun _ => rfl⟩
  case suppress b => exact ⟨_, b, _, _, works_suppress, fun _ => rfl⟩
  case defineKey b => exact ⟨_, b, _, _, works_defineKey, fun _ => rfl⟩
  case deleteKey b => exact ⟨_, b, _, _, works_deleteKey, fun _ => rfl⟩
  case defineDest b => exact ⟨_, b, _, _, works_defineDest, fun _ => rfl⟩
  case setTarget b => exact ⟨_, b, _, _, works_setTarget, fun _ => rfl⟩
  case setWatch b => exact ⟨_, b, _, _, works_setWatch, fun _ => rfl⟩
  case deleteDest b => exact ⟨_, b, _, _, works_deleteDest, fun _ => rfl⟩
  case setLast b => exact ⟨_, b, _, _, works_setLast, fun _ => rfl⟩
  case clearTalk b => exact ⟨_, b, _, _, works_clearTalk, fun _ => rfl⟩
  case stageDown b => exact ⟨_, b, _, _, works_stageDown, fun _ => rfl⟩
  case stageListen b => exact ⟨_, b, _, _, works_stageListen, fun _ => rfl⟩
  case stageUp b => exact ⟨_, b, _, _, works_stageUp, fun _ => rfl⟩
  case commit b => exact ⟨_, b, _, _, works_commit, fun _ => rfl⟩
  case discardPlan b => exact ⟨_, b, _, _, works_discardPlan, fun _ => rfl⟩
  case readSummary b => exact ⟨_, b, _, _, works_readSummary, fun _ => rfl⟩

theorem request_takenToWork {c : Instr} {n : Nat} {ok : Bool} (h : c.request = some (n, ok)) :
    c = .unrecognisedRequest n ∨ TakenToWork c n := by
  cases hl : c.lookup with
  | false => exact writer_takenToWork hl h
  | true =>
    obtain ⟨α, b, own, reads, e⟩ := lookup_taken hl h
    exact .inr ⟨α, b, false, own, reads.works false, e⟩

end Sys2Proof.Machine
end

section
/-! What each event other than a request does in the part, as a deed (chapters 3 to 9). -/

namespace Sys2Proof.Machine

open Sys2Proof

/-- An event that is discarded while RESET# is low. -/
theorem deed_event {s : State} {k : State → State} (h : s.pins.inReset = false → Deed s (k s)) :
    Deed s (s.event k) := by
  unfold State.event
  split
  · exact .refl s
  · rename_i live
    exact h (Bool.not_eq_true _ ▸ live)

/-! ### The Coordination Engine's completions (R44, R60, R98) -/

theorem deed_completion (s : State) {k : State → State} (h : ∀ s, Proceeds s (k s)) :
    Deed s (s.event fun s => State.finish s (k s)) :=
  deed_event fun live => .event s live (h s)

/-! ### Notices -/

/-- A notice queued after a deed that ends no event. -/
theorem undisturbed_notify {s t : State} (u : Undisturbed s t) (n : Notice) : Undisturbed s (t.notify n) :=
  u.trans (undisturbed_of rfl rfl rfl rfl rfl rfl)

/-! ### Timers (R80 to R82, R85, R109) -/

theorem proceeds_reachTime (s : State) (d : Nat) : Proceeds s (s.reachTime d) :=
  proceeds_beside rfl rfl rfl rfl

theorem Link.yields_toLost {l : Link} (h : l.state = .settling ∨ l.state = .reverting ∨ l.state = .releasing) :
    l.Yields l.toLost := by
  have fresh : l.state ≠ .checking ∧ l.state ≠ .recheck := by rcases h with h | h | h <;> simp [h]
  refine Link.yields_of_holds fresh.1 fresh.2
    (fun _ => Link.plain_of_state (fun e => by cases e) (fun e => by cases e)) rfl rfl fun f hf => ?_
  rcases h with h | h | h <;>
    simpa [Link.holds, Link.toLost, h, LinkState.occupied, LinkState.holdsTarget] using hf

theorem Link.yields_reverting {l : Link} (h : l.state = .settling) (order : Option Order) :
    l.Yields { l with state := .reverting, order := order, timer := none, tries := 0 } := by
  refine Link.yields_of_holds (by simp [h]) (by simp [h])
    (fun _ => Link.plain_of_state (fun e => by cases e) (fun e => by cases e)) rfl rfl fun f hf => ?_
  simpa [Link.holds, h, LinkState.occupied, LinkState.holdsTarget] using hf

theorem proceeds_settleExpires (s : State) (h : Nat) : Proceeds s (s.settleExpires h (s.link h)) := by
  unfold State.settleExpires
  split
  · rename_i settling
    split
    · exact proceeds_setLink (Link.yields_reverting settling _)
    · split
      · exact proceeds_setLink (Link.yields_of_bearing rfl)
      · exact proceeds_enterLost (Link.yields_toLost (.inl settling))
  · rename_i reverting
    exact proceeds_enterLost (Link.yields_toLost (.inr (.inl reverting)))
  · exact .refl s

theorem proceeds_releaseExpires (s : State) (h : Nat) : Proceeds s (s.releaseExpires h (s.link h)) := by
  unfold State.releaseExpires
  split
  · rename_i releasing
    split
    · exact proceeds_setLink (Link.yields_of_bearing rfl)
    · exact proceeds_enterLost (Link.yields_toLost (.inr (.inr releasing)))
  · exact .refl s

theorem proceeds_referralExpires (s : State) (h : Nat) : Proceeds s (s.referralExpires h (s.link h)) := by
  unfold State.referralExpires
  split
  · rename_i referred
    exact (proceeds_setLink (Link.yields_declined referred)).notify _
  · exact .refl s

theorem deed_expiry (s : State) (h : Nat) (kind : TimerKind) {k : State → Nat → Link → State}
    (hk : ∀ s h, Proceeds s (k s h (s.link h))) : Deed s (s.expiry h kind k) := by
  refine deed_event fun live => ?_
  split
  · split
    · exact .event s live ((proceeds_reachTime s _).trans (hk (s.reachTime _) h))
    · exact .refl s
  · exact .refl s

/-! ### Reports from the rack (R174) -/

theorem undisturbed_rrxDone (s : State) : Undisturbed s s.rrxDone :=
  ⟨rfl, rfl, id, fun _ => rfl, rfl, rfl, rfl, rfl, rfl, rfl⟩

theorem deed_rrxDone (s : State) : Deed s s.rrxDone :=
  .quiet ((Proceeds.refl s).setRadio _) (undisturbed_rrxDone s)

theorem deed_report {α : Type} {s : State} (b : LineBody α) {handle : α → Nat} {inRange : α → Bool}
    {k : α → State → State}
    (hk : ∀ a s, s.pins.inReset = false → s.configured = true → handle a < 160 →
      (s.link (handle a)).state ≠ .free → Deed s (k a s)) : Deed s (s.report b handle inRange k) := by
  refine deed_event fun live => ?_
  split
  · exact deed_rrxDone s
  · rename_i on
    have on : s.configured = true := by simpa using on
    split
    · exact deed_rrxDone s
    · exact deed_rrxDone s
    · rename_i a
      split
      · exact deed_rrxDone s
      · rename_i ok
        split
        · exact deed_rrxDone s
        · rename_i occupied
          have ok : handleOk (handle a) = true ∧ inRange a = true := by simpa using ok
          have lt := Nat.lt_succ_of_le ((handleOk_iff _).mp ok.1)
          exact .after ((Proceeds.refl s).setRadio _) (undisturbed_rrxDone s)
            (hk a s.rrxDone live on lt occupied)

/-- A link that a TUNED finds keeps the step reported as its only carrier (R78, R79). -/
theorem Link.yields_toActive {l : Link} {step : Nat} (waits : l.state.awaitsTuned = true)
    (kept : l.target = some step ∨ l.carrier = some step) : l.Yields (l.toActive step) := by
  have state : l.state.occupied = true ∧ l.state.holdsTarget = true ∧ l.state ≠ .checking
      ∧ l.state ≠ .recheck := by
    cases e : l.state <;> simp_all [LinkState.awaitsTuned, LinkState.occupied, LinkState.holdsTarget]
  obtain ⟨occupied, target, checking, recheck⟩ := state
  refine Link.yields_of_holds checking recheck (fun _ _ => rfl) rfl rfl fun f hf => ?_
  rcases hf with ⟨-, hf⟩ | ⟨-, hf⟩
  · cases hf
    exact kept.elim (fun h => .inr ⟨target, h⟩) fun h => .inl ⟨occupied, h⟩
  · cases hf

theorem proceeds_reachActive {s : State} {h step : Nat} (waits : (s.link h).state.awaitsTuned = true)
    (kept : (s.link h).target = some step ∨ (s.link h).carrier = some step) :
    Proceeds s (s.reachActive h (s.link h) step) := by
  have tuned := proceeds_setLink (Link.yields_toActive waits kept)
  have swept : Proceeds s (if 1 < (s.link h).held.length
      then (s.setLink h ((s.link h).toActive step)).wantSweep
      else s.setLink h ((s.link h).toActive step)) := by
    split
    · exact tuned.setPool _
    · exact tuned
  unfold State.reachActive
  simp only
  split
  · exact swept
  · exact swept.restandAll

theorem deed_tunedAt {s : State} (live : s.pins.inReset = false) (h step : Nat) :
    Deed s (s.tunedAt h step) := by
  unfold State.tunedAt
  simp only
  split
  · exact .refl s
  · rename_i waits
    have waits : (s.link h).state.awaitsTuned = true := by simpa using waits
    split
    · rename_i target
      exact .event s live ((proceeds_reachActive waits (.inl target)).notify _)
    · split
      · rename_i carrier
        exact .event s live ((proceeds_reachActive waits (.inr carrier)).notify _)
      · exact .refl s

theorem deed_mutedAt {s : State} (live : s.pins.inReset = false) (h : Nat) : Deed s (s.mutedAt h) := by
  unfold State.mutedAt
  simp only
  split
  · rename_i state
    refine .event s live ((proceeds_enterFree ?_ ?_).notify _)
    · rcases state with e | e <;> simp [e]
    · rcases state with e | e <;> simp [e]
  · exact .refl s

/-! ### INTERFERENCE (R103 to R106) -/

/-- An ACTIVE record enters REFERRED. -/
theorem Link.yields_toReferred {l m : Link} (active : m.state = .active) (e : m.bearing = l.bearing)
    (deadline : Nat) : l.Yields (m.toReferred deadline) := by
  refine (Link.yields_of_bearing e).trans (Link.yields_of_holds (by simp [active]) (by simp [active])
    (fun _ _ => rfl) rfl rfl fun f hf => ?_)
  simpa [Link.holds, Link.toReferred, active, LinkState.occupied, LinkState.holdsTarget] using hf

theorem proceeds_enterReferred {s : State} {h : Nat} {l : Link} (active : l.state = .active)
    (e : l.bearing = (s.link h).bearing) (why : Referral) : Proceeds s (s.enterReferred h l why) :=
  (proceeds_setLink (Link.yields_toReferred active e _)).notify _

theorem proceeds_disturbedActive {s : State} (on : s.configured = true) {h : Nat} (lt : h < 160)
    (severity : Nat) (active : (s.link h).state = .active) :
    Proceeds s (s.disturbedActive h severity (s.link h).disturbed) := by
  have counted : Proceeds s (s.setLink h (s.link h).disturbed) :=
    proceeds_setLink (Link.yields_of_bearing rfl)
  have referred := proceeds_enterReferred (s := s) (h := h) (l := (s.link h).disturbed) active rfl
  unfold State.disturbedActive
  split
  · unfold State.autoRetune
    split
    · exact referred _
    · rename_i room
      obtain ⟨occupied, checking, recheck⟩ := Link.occupied_of_active (.inl active)
      exact proceeds_offer on (by simpa using room) lt rfl ⟨rfl, .inr ⟨rfl, rfl⟩⟩ checking recheck
        fun _ => Link.eases_recheck occupied rfl rfl rfl rfl
  · exact referred _
  · exact counted.notify _
  · exact counted

theorem deed_disturb {s : State} (live : s.pins.inReset = false) (on : s.configured = true) {h : Nat}
    (lt : h < 160) (severity : Nat) : Deed s (s.disturb h severity) := by
  unfold State.disturb
  simp only
  split
  · rename_i active
    exact .event s live (proceeds_disturbedActive on lt _ active)
  · exact .setLink (Link.yields_of_bearing rfl) rfl

/-! ### CARRIER LOSS and CARRIER BACK (R27, R174) -/

theorem deed_carrierLost (s : State) (h : Nat) : Deed s (s.carrierLost h) := by
  have marked : Proceeds s (s.setLink h { s.link h with signalLost := true }) :=
    proceeds_setLink (Link.yields_of_bearing rfl)
  have quiet : Undisturbed s (s.setLink h { s.link h with signalLost := true }) := undisturbed_setLink rfl
  exact .quiet (marked.notify _) (undisturbed_notify quiet _)

/-! ### Keys (R142, R175, R177) -/

theorem deed_keyEvent {s : State} (live : s.pins.inReset = false) (origin : Origin) (press : Bool) :
    Deed s (s.keyEvent origin press) := by
  unfold State.keyEvent
  split
  · exact .refl s
  · exact .event s live ((Proceeds.refl s).setTalk _)

theorem undisturbed_mrxDone (s : State) : Undisturbed s s.mrxDone :=
  ⟨rfl, rfl, id, fun _ => rfl, rfl, rfl, rfl, rfl, rfl, rfl⟩

theorem deed_mrxDone (s : State) : Deed s s.mrxDone :=
  .quiet (proceeds_beside rfl rfl rfl rfl) (undisturbed_mrxDone s)

theorem deed_panelEvent (s : State) (b : LineBody PanelArgs) (press : Bool) :
    Deed s (s.panelEvent b press) := by
  refine deed_event fun live => ?_
  split
  · exact deed_mrxDone s
  · split
    · exact deed_mrxDone s
    · exact deed_mrxDone s
    · split
      · exact .after (t := s.mrxDone) (proceeds_beside rfl rfl rfl rfl) (undisturbed_mrxDone s)
          (deed_keyEvent (s := s.mrxDone) live _ press)
      · exact deed_mrxDone s

theorem deed_talkDeadline (s : State) (k : Nat) :
    ∃ t, exec (.talkDeadlineExpiry k) s = .next t ∧ Deed s t := by
  refine ⟨_, rfl, deed_event fun live => ?_⟩
  split
  · exact .event s live (((proceeds_reachTime s _).setTalk _).notify _)
  · exact .refl s

/-! ### The tally lines (R113 to R115, R193) -/

theorem undisturbed_lineDone (s : State) (x : Source) : Undisturbed s (s.lineDone x) := by
  cases x <;> exact undisturbed_of rfl rfl rfl rfl rfl rfl

theorem proceeds_lineDone (s : State) (x : Source) : Proceeds s (s.lineDone x) := by
  cases x <;> exact proceeds_beside rfl rfl rfl rfl

theorem proceeds_noteLive {s t : State} (a : Proceeds s t) (x : Source) (was : SrcState) :
    Proceeds s (t.noteLive x was) := by
  unfold State.noteLive
  split
  · exact a.notify _
  · exact a

theorem deed_tallyFrame {s : State} (live : s.pins.inReset = false) (x : Source) (b : LineBody FrameArgs) :
    Deed s (s.tallyFrame x b) := by
  unfold State.tallyFrame
  split
  · exact .refl s
  · exact .refl s
  · split
    · exact .refl s
    · split
      · exact .refl s
      · exact deed_afterTally s live (proceeds_noteLive (proceeds_changeSource s _ _) _ _)

theorem deed_liveness (s : State) (x : Source) :
    ∃ t, exec (.livenessExpiry x) s = .next t ∧ Deed s t := by
  refine ⟨_, rfl, deed_event fun live => ?_⟩
  split
  · exact deed_afterTally s live
      (((proceeds_reachTime s _).trans (proceeds_changeSource _ x _)).notify _)
  · exact .refl s

/-! ### The frame mark (R162, R163) -/

theorem proceeds_applyPlan (s : State) : Proceeds s s.applyPlan :=
  Proceeds.restandAll (((((Proceeds.refl s).setPlans _).setRadio _).notify _).setTalk _)

theorem deed_frameMark (s : State) : ∃ t, exec .frameMark s = .next t ∧ Deed s t := by
  refine ⟨_, rfl, ?_⟩
  unfold State.outside
  split
  · exact .refl s
  · rename_i taken
    have live : s.pins.inReset = false := by simp_all
    simp only
    split
    · exact .event s live (proceeds_applyPlan s)
    · exact .refl s

end Sys2Proof.Machine
end

section
/-! What one step does, and the invariants it keeps: nothing left that could begin, the bounds of the queues
with what a collect presents, and the properties of R64. -/

namespace Sys2Proof.Machine

open Sys2Proof

/-! ### One command -/

/-- What a command makes of the state it finds: work in the part, alone or answered at the Control Port, or a
change at the Control Port or a pin. -/
inductive Transition (s : State) : State → Prop
  | work {t : State} (deed : Deed s t) : Transition s t
  | answered {t : State} (code : Nat) (st : Status) (body : RespBody) (free : s.free) (deed : Deed s t) :
    Transition s (t.respond code st body)
  | fault (listening : s.listening) : Transition s s.portFault
  | presents (open_ : s.port.transaction ≠ .collect) : Transition s (s.setPort s.port.present)
  | collected (i : Item) (clocked : Nat) (presented : s.port.presented = some i) :
    Transition s (s.setPort (s.port.collected i clocked))
  | pins (x : Pins) (reset : x.inReset = true → s.pins.inReset = true) : Transition s (s.setPins x)
  | reset : Transition s s.underReset
  | level (b : Bool) (reset : b = true → s.pins.inReset = true) :
    Transition s (s.setRadio { s.radio with cts := b })

theorem Transition.refl (s : State) : Transition s s := .work (.refl s)

/-- A request transaction that reaches the port (R180, R183, R194). -/
theorem transition_transaction {s : State} {k : State → State} (h : s.listening → Transition s (k s)) :
    Transition s (s.transaction k) := by
  unfold State.transaction
  split
  · exact .refl s
  · rename_i live
    split
    · exact .pins _ id
    · rename_i held
      split
      · exact .refl s
      · rename_i collect
        exact h ⟨Bool.not_eq_true _ ▸ live, Bool.not_eq_true _ ▸ held, collect⟩

/-- A request is discarded while a response is owed, and answered otherwise (R181). -/
theorem transition_take {α : Type} {always : Bool} {own : α → State → Answer} (w : Works always own)
    (s : State) (n : Nat) (b : ReqBody α) : Transition s (s.take n always b own) := by
  refine transition_transaction fun listening => ?_
  split
  · exact .fault listening
  · rename_i unowed
    have free : s.free := ⟨listening, by simpa using unowed⟩
    split
    · exact .answered _ _ _ free (.refl s)
    · rename_i on
      have on : always = true ∨ s.configured = true := by
        cases always <;> simp_all
      split
      · exact .answered _ _ _ free (.refl s)
      · exact .answered _ _ _ free (w _ s free.1.1 on)

theorem transition_unrecognised (s : State) (code : Nat) :
    ∃ t, exec (.unrecognisedRequest code) s = .next t ∧ Transition s t := by
  refine ⟨_, rfl, transition_transaction fun listening => ?_⟩
  split
  · exact .fault listening
  · rename_i unowed
    exact .answered _ _ _ ⟨listening, by simpa using unowed⟩ (.refl s)

/-- An event at the Control Port's own pins and transactions. -/
theorem transition_event {s : State} {k : State → State} (h : Transition s (k s)) :
    Transition s (s.event k) := by
  unfold State.event
  split
  · exact .refl s
  · exact h

theorem transition_collect (s : State) : Transition s (s.event fun s =>
    if s.pins.selHeld || s.port.transaction == .collect then s else s.setPort s.port.present) := by
  refine transition_event ?_
  split
  · exact .refl s
  · rename_i free
    exact .presents fun e => free (by simp [e])

theorem transition_selRises (s : State) (clocked : Nat) : Transition s (s.selRises clocked) := by
  unfold State.selRises
  split
  · exact .pins _ id
  · split
    · rename_i i presented
      exact .collected i clocked presented
    · exact .refl s

theorem transition_ctsAsserted (s : State) :
    Transition s ((s.setRadio { s.radio with cts := true }).event fun t => State.finish t t) := by
  unfold State.event
  split
  · rename_i reset
    exact .level true fun _ => reset
  · rename_i live
    exact .work (.event _ (Bool.not_eq_true _ ▸ live) ((Proceeds.refl s).setRadio _))

theorem transition_risingEdge (s : State) (selLow : Bool) :
    Transition s (if s.pins.inReset then s.setPins { inReset := false, selHeld := selLow } else s) := by
  split
  · exact .pins _ fun e => by cases e
  · exact .refl s

theorem transition_of_deed {c : Instr} {s : State} (h : ∃ t, exec c s = .next t ∧ Deed s t) :
    ∃ t, exec c s = .next t ∧ Transition s t := by
  obtain ⟨t, run, deed⟩ := h
  exact ⟨t, run, .work deed⟩

/-- A command that is no request. -/
theorem exec_event_transition {c : Instr} (h : c.request = none) (s : State) :
    ∃ t, exec c s = .next t ∧ Transition s t := by
  cases c
  all_goals cases h
  case framingError => exact ⟨_, rfl, transition_transaction .fault⟩
  case collect => exact ⟨_, rfl, transition_collect s⟩
  case collectEnd n => exact ⟨_, rfl, transition_event (transition_selRises s n)⟩
  case checkCompletion => exact ⟨_, rfl, .work (deed_completion s proceeds_checkCompletes)⟩
  case trialEnd => exact ⟨_, rfl, .work (deed_completion s proceeds_trialEnds)⟩
  case sweepUnitCompletion => exact ⟨_, rfl, .work (deed_completion s proceeds_sweepCompletes)⟩
  case settleTimerExpiry h => exact ⟨_, rfl, .work (deed_expiry s h _ proceeds_settleExpires)⟩
  case releaseTimerExpiry h => exact ⟨_, rfl, .work (deed_expiry s h _ proceeds_releaseExpires)⟩
  case referralTimerExpiry h => exact ⟨_, rfl, .work (deed_expiry s h _ proceeds_referralExpires)⟩
  case tuned b => exact ⟨_, rfl, .work (deed_report b fun _ _ live _ _ _ => deed_tunedAt live _ _)⟩
  case muted b => exact ⟨_, rfl, .work (deed_report b fun _ _ live _ _ _ => deed_mutedAt live _)⟩
  case interference b =>
    exact ⟨_, rfl, .work (deed_report b fun _ _ live on lt _ => deed_disturb live on lt _)⟩
  case carrierLoss b => exact ⟨_, rfl, .work (deed_report b fun _ s _ _ _ _ => deed_carrierLost s _)⟩
  case carrierBack b =>
    exact ⟨_, rfl, .work (deed_report b fun _ _ _ _ _ _ => .setLink (Link.yields_of_bearing rfl) rfl)⟩
  case key b =>
    refine ⟨_, rfl, .work (deed_report b fun _ s live _ _ _ => ?_)⟩
    split
    · exact deed_keyEvent live _ _
    · exact .refl s
  case radioReceiveTimeout => exact ⟨_, rfl, .work (deed_event fun _ => deed_rrxDone s)⟩
  case radioUnknownReportType => exact ⟨_, rfl, .work (deed_event fun _ => deed_rrxDone s)⟩
  case ctsAsserted => exact ⟨_, rfl, transition_ctsAsserted s⟩
  case ctsWithdrawn => exact ⟨_, rfl, .level false fun e => by cases e⟩
  case radioMessageComplete =>
    exact ⟨_, rfl, .work (deed_completion s fun s => (Proceeds.refl s).setRadio _)⟩
  case press b => exact ⟨_, rfl, .work (deed_panelEvent s b true)⟩
  case release b => exact ⟨_, rfl, .work (deed_panelEvent s b false)⟩
  case matrixReceiveTimeout => exact ⟨_, rfl, .work (deed_event fun _ => deed_mrxDone s)⟩
  case matrixUnknownEventType => exact ⟨_, rfl, .work (deed_event fun _ => deed_mrxDone s)⟩
  case routeComplete =>
    exact ⟨_, rfl, .work (deed_completion s fun s => proceeds_beside rfl rfl rfl rfl)⟩
  case tallyFrame x b =>
    exact ⟨_, rfl, .work (deed_event fun live => .after (proceeds_lineDone s x) (undisturbed_lineDone s x)
      (deed_tallyFrame ((undisturbed_lineDone s x).pins.trans live) x b))⟩
  case tallyReceiveTimeout x =>
    exact ⟨_, rfl, .work (deed_event fun _ => .quiet (proceeds_lineDone s x) (undisturbed_lineDone s x))⟩
  case tallyUnknownMessageType x n =>
    exact ⟨_, rfl, .work (deed_event fun _ => .quiet (proceeds_lineDone s x) (undisturbed_lineDone s x))⟩
  case livenessExpiry x => exact transition_of_deed (deed_liveness s x)
  case talkDeadlineExpiry k => exact transition_of_deed (deed_talkDeadline s k)
  case frameMark => exact transition_of_deed (deed_frameMark s)
  case hardwareReset => exact ⟨_, rfl, .reset⟩
  case resetRisingEdge b => exact ⟨_, rfl, transition_risingEdge s b⟩

theorem exec_transition (c : Instr) (s : State) : ∃ t, exec c s = .next t ∧ Transition s t := by
  cases h : c.request with
  | none => exact exec_event_transition h s
  | some r =>
    obtain ⟨n, ok⟩ := r
    rcases request_takenToWork h with rfl | ⟨α, b, always, own, works, e⟩
    · exact transition_unrecognised s n
    · exact ⟨_, e s, transition_take works s n b⟩

/-- A step runs the command at the front of the queue, or advances the timebase. -/
theorem step_transition {s t : State} (h : step s = .next t) :
    (∃ rest, Transition (s.setPending rest) t) ∨ Transition s t := by
  unfold step at h
  split at h
  · rename_i c rest _
    obtain ⟨u, e, transition⟩ := exec_transition c (s.setPending rest)
    rw [e] at h
    cases h
    exact .inl ⟨rest, transition⟩
  · cases h
    refine .inr (.work ?_)
    split
    · exact .refl s
    · exact .beside rfl rfl rfl rfl rfl rfl rfl

/-- A predicate that no waiting command bears on, and that every transition keeps, is kept by every step. -/
theorem step_keeps {P : State → Prop} (pending : ∀ s rest, P s → P (s.setPending rest))
    (keeps : ∀ {s t}, Transition s t → P s → P t) {s t : State} (h : step s = .next t) (p : P s) : P t := by
  rcases step_transition h with ⟨rest, transition⟩ | transition
  · exact keeps transition (pending s rest p)
  · exact keeps transition p

end Sys2Proof.Machine
end

section
/-! The invariants of the whole part: settled (O54), the queues and the Control Port (O55), the properties of
R64 (O60), and what holds right after a reset (O4). -/

namespace Sys2Proof.Machine

open Sys2Proof

/-! ### States whose blocks stand at their reset values (R194) -/

/-- The Link Table and the engine stand as a reset leaves them. -/
structure Blank (s : State) : Prop where
  links : s.links = State.reset.links
  engine : s.engine = State.reset.engine

theorem Blank.link {s : State} (b : Blank s) (h : Nat) : s.link h = Link.free := by
  rw [State.link, b.links]
  exact Tab.get_fill h _

theorem Blank.occupied {s : State} (b : Blank s) : s.occupied = [] := by
  refine List.eq_nil_iff_forall_not_mem.mpr fun a ha => ?_
  obtain ⟨h, -, ha⟩ := (s.mem_occupied a).mp ha
  rw [b.link] at ha
  cases ha

theorem Blank.coordinated {s : State} (b : Blank s) : s.coordinated := by
  have queue : s.engine.queue = [] := by rw [b.engine]; rfl
  refine ⟨⟨?_, ?_, ?_⟩, fun _ => ⟨b.occupied, queue⟩, ?_, ?_, fun h _ => ?_, fun occ trial failures w => ?_⟩
  · simp [b.occupied]
  · simp [b.occupied]
  · simp [b.occupied]
  · simp [queue]
  · simp [queue]
  · rw [b.link]
    rfl
  · rw [b.engine] at w
    cases w

theorem Blank.settled {s : State} (b : Blank s) (pool : s.pool = State.reset.pool)
    (planOwed : s.radio.planOwed = false) (mtx : s.mtx = State.reset.mtx) : s.settled := by
  refine ⟨fun _ => ?_, fun _ _ => ⟨planOwed, fun h _ => ?_⟩, fun _ id _ => ?_⟩
  · rw [b.engine, pool]
    exact ⟨rfl, rfl⟩
  · rw [b.link]
    rfl
  · rw [mtx]
    exact Tab.get_fill id false

theorem blank_reset : Blank State.reset := ⟨rfl, rfl⟩

theorem blank_underReset (s : State) : Blank s.underReset := ⟨rfl, rfl⟩

theorem settled_underReset (s : State) : s.underReset.settled :=
  (blank_underReset s).settled rfl rfl rfl

/-! ### Settled (R42, R43, R170, R178) -/

theorem settled_congr {s t : State} (links : t.links = s.links) (engine : t.engine = s.engine)
    (pool : t.pool = s.pool) (radio : t.radio = s.radio) (mtx : t.mtx = s.mtx) (pins : t.pins = s.pins)
    (h : s.settled) : t.settled :=
  (undisturbed_of links engine (by rw [pool]) radio mtx pins).settled h

theorem Transition.keeps_settled {s t : State} (a : Transition s t) (h : s.settled) : t.settled := by
  cases a with
  | work deed => exact deed.settled h
  | answered code st body free deed => exact settled_congr rfl rfl rfl rfl rfl rfl (deed.settled h)
  | fault => exact settled_congr rfl rfl rfl rfl rfl rfl h
  | presents => exact settled_congr rfl rfl rfl rfl rfl rfl h
  | collected => exact settled_congr rfl rfl rfl rfl rfl rfl h
  | pins x reset =>
    obtain ⟨engine, radio, matrix⟩ := h
    exact ⟨engine, fun sending level => radio sending (level.imp_right reset), matrix⟩
  | reset => exact settled_underReset s
  | level b reset =>
    obtain ⟨engine, radio, matrix⟩ := h
    refine ⟨engine, fun sending level => radio sending ?_, matrix⟩
    exact .inr (level.elim reset id)

/-- Settles O54: each transition either ends an event, whose end lets everything begin that can, or adds nothing
that could begin. -/
theorem stepKeepsSettled : Obligations.StepKeepsSettled := fun _ _ settled step =>
  step_keeps (fun _ _ h => settled_congr rfl rfl rfl rfl rfl rfl h) Transition.keeps_settled step settled

/-! ### The queues and the Control Port (R40, R183, R186) -/

/-- A port whose notices lie within their bound and whose presented item stands where it was chosen. -/
def Port.sound (p : Port) : Prop :=
  p.notices.length ≤ 16
    ∧ (p.transaction = .collect ↔ p.presented.isSome = true)
    ∧ (∀ r, p.presented = some (.response r) → p.owed = some r)
    ∧ ∀ n, p.presented = some (.notice n) → p.owed = none ∧ p.notices.head? = some n

theorem Port.Grown.sound {p q : Port} (g : p.Grown q) (h : p.sound) : q.sound := by
  obtain ⟨bound, collect, response, notice⟩ := h
  refine ⟨g.bound bound, ?_, ?_, fun n e => ?_⟩
  · rw [g.transaction, g.presented]
    exact collect
  · rw [g.presented, g.owed]
    exact response
  · rw [g.presented] at e
    obtain ⟨owed, head⟩ := notice n e
    refine ⟨g.owed.trans owed, ?_⟩
    obtain ⟨more, grown⟩ := g.notices
    rw [← grown, List.head?_append, head]
    rfl

/-- A port with no item presented and no collect under way. -/
theorem Port.sound_of_none {p : Port} (bound : p.notices.length ≤ 16) (transaction : p.transaction = .none)
    (presented : p.presented = none) : p.sound := by
  simp [Port.sound, bound, transaction, presented]

theorem Port.sound.presented_eq_none {p : Port} (h : p.sound) (open_ : p.transaction ≠ .collect) :
    p.presented = none := by
  obtain ⟨-, collect, -, -⟩ := h
  exact Option.not_isSome_iff_eq_none.mp fun some => open_ (collect.mpr some)

theorem Port.sound.present {p : Port} (h : p.sound) : p.present.sound := by
  obtain ⟨bound, -, -, -⟩ := h
  refine ⟨bound, by simp [Port.present], fun r e => ?_, fun n e => ?_⟩
  all_goals
    simp only [Port.present, Port.choose, Option.some.injEq] at e
    split at e
  · cases e
    assumption
  · split at e <;> cases e
  · cases e
  · rename_i unowed
    split at e
    · rename_i notices
      cases e
      exact ⟨unowed, by simp [Port.present, notices]⟩
    · cases e

theorem Port.sound.collected {p : Port} (h : p.sound) (i : Item) (clocked : Nat) :
    (p.collected i clocked).sound := by
  obtain ⟨bound, -, -, -⟩ := h
  unfold Port.collected
  split
  · refine Port.sound_of_none ?_ rfl rfl
    cases i with
    | response | empty => exact bound
    | notice => exact (List.length_tail ▸ Nat.sub_le _ _).trans bound
  · exact Port.sound_of_none bound rfl rfl

/-- The bounds of the queues, with a sound port. -/
def State.queuesSound (s : State) : Prop := s.port.sound ∧ s.engine.queue.length ≤ 12

theorem State.queuesSound_iff (s : State) : s.queuesSound ↔ s.bounded ∧ s.portSound := by
  simp only [State.queuesSound, Port.sound, State.bounded, State.portSound]
  tauto

theorem Proceeds.queuesSound {s t : State} (a : Proceeds s t) (h : s.queuesSound) : t.queuesSound :=
  ⟨a.port.sound h.1, a.queue h.2⟩

/-- No collect is under way where a request reaches the port. -/
theorem State.listening.not_collect {s : State} (h : s.listening) : s.port.transaction ≠ .collect := h.2.2

theorem Transition.keeps_queuesSound {s t : State} (a : Transition s t) (h : s.queuesSound) :
    t.queuesSound := by
  cases a with
  | work deed => exact deed.proceeds.queuesSound h
  | answered code st body free deed =>
    obtain ⟨port, queue⟩ := deed.proceeds.queuesSound h
    have presented := h.1.presented_eq_none free.1.not_collect
    exact ⟨Port.sound_of_none port.1 rfl (deed.proceeds.port.presented.trans presented), queue⟩
  | fault listening =>
    exact ⟨Port.sound_of_none h.1.1 rfl (h.1.presented_eq_none listening.not_collect), h.2⟩
  | presents => exact ⟨h.1.present, h.2⟩
  | collected i clocked => exact ⟨h.1.collected i clocked, h.2⟩
  | pins => exact h
  | reset => exact ⟨Port.sound_of_none (Nat.zero_le _) rfl rfl, Nat.zero_le _⟩
  | level => exact h

/-- Settles O55: notices only join the queue while an item is presented, and a response becomes owed only where
none is. -/
theorem stepKeepsQueuesAndPort : Obligations.StepKeepsQueuesAndPort := fun s t bounded port step =>
  t.queuesSound_iff.mp (step_keeps (fun _ _ h => h) Transition.keeps_queuesSound step
    (s.queuesSound_iff.mpr ⟨bounded, port⟩))

/-! ### The occupied set (R64) -/

theorem Coordinated.beside {s t : State} (c : Coordinated s) (engine : t.engine = s.engine)
    (links : t.links = s.links) : Coordinated t :=
  c.of_yields engine fun h => by simp only [State.link, links]; exact .refl _

theorem Transition.keeps_coordinated {s t : State} (a : Transition s t) (c : Coordinated s) :
    Coordinated t := by
  cases a with
  | work deed => exact deed.proceeds.coordinated c
  | answered code st body free deed => exact (deed.proceeds.coordinated c).beside rfl rfl
  | reset => exact (State.coordinated_iff _).mp (blank_underReset s).coordinated
  | fault | presents | collected | pins | level => exact c.beside rfl rfl

/-- Settles O60: a carrier is taken up only by a pass, whose check met a set that covers every carrier held;
every other transition yields at each record. -/
theorem stepKeepsOccupiedSetProtected : Obligations.StepKeepsOccupiedSetProtected :=
  ⟨blank_reset.coordinated, fun s t coordinated step => t.coordinated_iff.mpr
    (step_keeps (fun _ _ c => c.beside rfl rfl) Transition.keeps_coordinated step
      (s.coordinated_iff.mp coordinated))⟩

/-! ### Right after a reset -/

theorem key_reset (k : Nat) : State.reset.talk.key k = none := Tab.get_fill k none

theorem dest_reset (id : Nat) : State.reset.talk.dest id = none := Tab.get_fill id none

/-- No key and no destination is defined, and every record is FREE. -/
theorem stands_reset : State.reset.stands := by
  refine ⟨⟨fun id d e => ?_, fun k x e => ?_⟩, fun h _ => blank_reset.link h, fun id d e => ?_⟩
  all_goals simp [key_reset, dest_reset] at e

theorem inOrder_reset : State.reset.talk.inOrder := by
  refine ⟨fun id d e => ?_, fun k x e => ?_⟩
  all_goals simp [key_reset, dest_reset] at e

theorem distinct_reset : State.reset.pool.distinct := by
  intro i j a b e
  rw [State.reset, Tab.get_fill] at e
  cases e

theorem plansSound_reset : State.reset.plansSound :=
  ⟨List.Pairwise.nil, List.Pairwise.nil, by decide, fun e => by cases e⟩

/-- Settles O4, block by block: every table holds its reset value at every place. -/
theorem resetMeetsInvariants : Obligations.ResetMeetsInvariants :=
  have queues : State.reset.queuesSound := ⟨Port.sound_of_none (Nat.zero_le _) rfl rfl, Nat.zero_le _⟩
  have ports := State.reset.queuesSound_iff.mp queues
  ⟨blank_reset.settled rfl rfl rfl, ports.1, ports.2, distinct_reset, stands_reset, inOrder_reset,
    plansSound_reset, blank_reset.coordinated⟩

end Sys2Proof.Machine
end

section
/-! The end of an event with a low-pool evaluation before it, and the completion of a sweep unit (R61, R98,
R101). -/

namespace Sys2Proof.Machine

open Sys2Proof

/-! ### Slots -/

/-- Only the statuses of the slots count for the number of CLEAR spares. -/
theorem clearCount_of_slotKept {s t : State} (kept : ∀ i, s.slotKept t i) :
    t.pool.clearCount = s.pool.clearCount := by
  have status : ∀ (x : Option Spare), (x.any fun sp => sp.status == .clear)
      = (x.map (·.status)).any (· == .clear) := fun x => by cases x <;> rfl
  rw [Pool.clearCount, Pool.clearCount, Pool.count_eq, Pool.count_eq, Tab.countP_rows _ none,
    Tab.countP_rows _ none]
  congr 1
  funext i
  rw [status, status, status_of_slotKept (kept i)]

theorem slotKept_of_slots {s t : State} {i : Nat} (e : t.pool.slots.get i none = s.pool.slots.get i none) :
    s.slotKept t i := by
  rw [State.slotKept, e]

theorem State.slotKept.trans {s t u : State} {i : Nat} (a : s.slotKept t i) (b : t.slotKept u i) :
    s.slotKept u i :=
  Eq.trans b a

theorem State.slotKept.of_none {s t : State} {i : Nat} (a : s.slotKept t i)
    (e : s.pool.slots.get i none = none) : t.pool.slots.get i none = none := by
  rw [State.slotKept, e] at a
  simpa using a

theorem State.slotKept.of_some {s t : State} {i : Nat} (a : s.slotKept t i) {sp : Spare}
    (e : s.pool.slots.get i none = some sp) :
    ∃ sp', t.pool.slots.get i none = some sp' ∧ { sp' with inUse := .none } = { sp with inUse := .none } := by
  rw [State.slotKept, e] at a
  simpa using a

/-- Two spares alike in all but what judges them. -/
theorem Spare.fields_of_unmarked {a b : Spare}
    (e : ({ a with inUse := .none } : Spare) = { b with inUse := .none }) :
    a.step = b.step ∧ a.cls = b.cls ∧ a.zones = b.zones ∧ a.status = b.status ∧ a.margin = b.margin := by
  simpa using e

/-! ### The end of an event after a low-pool evaluation -/

theorem quiet_of_slots {s t : State} (work : t.engine.work = s.engine.work)
    (queue : t.engine.queue = s.engine.queue) (slots : t.pool.slots = s.pool.slots) (q : s.quiet) :
    t.quiet := by
  unfold State.quiet Pool.pick Pool.spares at *
  rw [work, queue, slots]
  exact q

/-- The jobs that wait name their steps: an engine at any work is quiet. -/
theorem quiet_of_calm {s : State} (calm : calmRest s.engine.queue) : s.quiet := fun _ j head =>
  .inl (calm j head)

/-- What the end of an event leaves of the state its work made, apart from the alert and its notice. -/
structure Ended (u t : State) : Prop where
  lasting : ∀ h, (t.link h).lasting = (u.link h).lasting
  held : u.radioHeld → t.links = u.links
  profile : t.engine.profile = u.engine.profile
  blocked : t.engine.blocked = u.engine.blocked
  queue : t.engine.queue = u.engine.queue
  talk : t.talk = u.talk
  venue : u.sameVenue t
  outside : SameOutside u t
  slots : ∀ i, u.slotKept t i

theorem State.sameVenue.trans {s t u : State} (a : s.sameVenue t) (b : t.sameVenue u) : s.sameVenue u := by
  obtain ⟨profile, blocked, plans, cts, rrx, mrx⟩ := a
  obtain ⟨profile', blocked', plans', cts', rrx', mrx'⟩ := b
  exact ⟨profile'.trans profile, blocked'.trans blocked, plans'.trans plans, cts'.trans cts, rrx'.trans rrx,
    mrx'.trans mrx⟩

theorem quiet_lowPoolSince {u : State} (q : u.quiet) (n : Nat) : (u.lowPoolSince n).quiet := by
  have alert := sameButAlert_lowPoolSince n u
  exact quiet_of_slots (by rw [alert.engine]) (by rw [alert.engine]) alert.slots q

theorem ended_finish (s0 : State) {u : State} (q : u.quiet) (n : Nat) :
    Ended u (State.finish s0 (u.lowPoolSince n)) := by
  have alert := sameButAlert_lowPoolSince n u
  have quiet := quiet_lowPoolSince q n
  have ends := sameButEnd_finish s0 quiet
  have link : ∀ h, (u.lowPoolSince n).link h = u.link h := fun h => by simp only [State.link, alert.links]
  refine ⟨fun h => by rw [ends.lasting, link], fun r => ?_, ?_, ?_, ?_, ?_, ⟨?_, ?_, ?_, ?_, ?_, ?_⟩,
    (sameOutside_lowPoolSince n u).trans ends.outside, fun i => ?_⟩
  · have held : (u.lowPoolSince n).radioHeld := by rwa [State.radioHeld, alert.radio]
    exact (links_finish s0 quiet held).trans alert.links
  · rw [ends.profile, alert.engine]
  · rw [ends.blocked, alert.engine]
  · rw [ends.queue, alert.engine]
  · rw [ends.talk, alert.talk]
  · rw [ends.profile, alert.engine]
  · rw [ends.blocked, alert.engine]
  · rw [ends.plans, alert.plans]
  · rw [ends.cts, alert.radio]
  · rw [ends.rrx, alert.radio]
  · rw [ends.mrx, alert.mtx]
  · exact (slotKept_of_slots (by rw [alert.slots])).trans (slotKept_finish s0 quiet i)

/-- With no change to account for, no low-pool evaluation is made. -/
theorem lowPoolSince_unchanged (u : State) : u.lowPoolSince u.pool.clearCount = u := by
  simp [State.lowPoolSince]

theorem Ended.occupied {u t : State} (e : Ended u t) : t.occupied = u.occupied :=
  State.occupied_congr e.lasting e.profile

theorem Ended.check {u t : State} (e : Ended u t) : t.check = u.check := by
  funext occ c
  rw [State.check, Engine.prof, e.profile, e.blocked]
  rfl

/-- The low-pool evaluation of an event that began in a state whose pool had the alert of `b` (R101). -/
theorem judged_finish (s0 : State) {b u : State} (q : u.quiet)
    (threshold : u.pool.threshold = b.pool.threshold) (armed : u.pool.armed = b.pool.armed) :
    b.lowPoolJudged (State.finish s0 (u.lowPoolSince b.pool.clearCount)) u.port := by
  have judged := lowPoolJudged_lowPoolSince threshold armed
  have quiet := quiet_lowPoolSince q b.pool.clearCount
  have ends := sameButEnd_finish s0 quiet
  have count := clearCount_of_slotKept (slotKept_finish s0 quiet)
  unfold State.lowPoolJudged at judged ⊢
  rwa [ends.threshold, ends.armed, ends.port, count]

/-- Where the number of CLEAR spares is as it was, the event leaves the alert and queues no notice of it. -/
theorem State.lowPoolJudged.unchanged {s t : State} {p : Port} (j : s.lowPoolJudged t p)
    (kept : ∀ i, s.slotKept t i) : t.pool.armed = s.pool.armed ∧ t.port = p :=
  j.2.1 (.inl (clearCount_of_slotKept kept))

/-! ### A sweep unit (R61, R98) -/

theorem Finding.apply_fields (sp : Spare) (x : Finding) :
    (x.apply sp).step = sp.step ∧ (x.apply sp).cls = sp.cls ∧ (x.apply sp).zones = sp.zones := by
  cases x <;> exact ⟨rfl, rfl, rfl⟩

/-- The spare of a slot after the unit that judged it, before the slot's mark changes. -/
def Spare.sweptBy (sp : Spare) (x : Finding) : Spare :=
  if sp.inUse = .sweep then { x.apply sp with inUse := .none } else sp

theorem sweepCompletes_eq {s : State} {occ : List Party} {slot : Nat} {c : Party} {sp : Spare}
    (work : s.engine.work = .sweep occ slot c) (lt : slot < 32)
    (spare : s.pool.slots.get slot none = some sp) :
    ∃ u, s.sweepCompletes = u.lowPoolSince s.pool.clearCount ∧ u = (s.setWork .idle).setPool u.pool
      ∧ u.pool.threshold = s.pool.threshold ∧ u.pool.armed = s.pool.armed
      ∧ u.pool.slots.get slot none = some (sp.sweptBy (s.check occ c))
      ∧ ∀ i, i ≠ slot → u.pool.slots.get i none = s.pool.slots.get i none := by
  unfold State.sweepCompletes Spare.sweptBy
  rw [work]
  simp only [spare]
  split
  · exact ⟨_, rfl, rfl, rfl, rfl, Tab.get_set_same _ _ _ lt, fun i other => Tab.get_set_other _ _ _ other⟩
  · exact ⟨s.setWork .idle, (lowPoolSince_unchanged (s.setWork .idle)).symm, rfl, rfl, rfl, spare,
      fun _ _ => rfl⟩

/-- Settles O33: the unit's result replaces one slot, and the event's end marks spares at most. -/
theorem sweepUnitApplies : Obligations.SweepUnitApplies := by
  intro s occ slot c sp live work lt calm spare
  obtain ⟨u, completes, same, threshold, armed, own, others⟩ := sweepCompletes_eq work lt spare
  have quiet : u.quiet := by
    rw [same]
    exact quiet_of_calm calm
  have ended := ended_finish s quiet s.pool.clearCount
  have judged := judged_finish s quiet threshold armed
  have port : u.port = s.port := by rw [same]; rfl
  obtain ⟨sp', slot', kept⟩ := (ended.slots slot).of_some own
  obtain ⟨step, cls, zones, status, margin⟩ := Spare.fields_of_unmarked kept
  obtain ⟨step', cls', zones'⟩ := Finding.apply_fields sp (s.check occ c)
  refine ⟨_, sp', congrArg Host.Outcome.next ((event_live live _).trans (by rw [completes])), slot', ?_, ?_, ?_,
    fun sweep m tm pass => ?_, fun sweep e fail => ?_, fun other => ?_, fun i other => ?_, port ▸ judged, ?_, ?_,
    ?_, ?_, ?_⟩
  · rw [step, Spare.sweptBy]
    split
    · exact step'
    · rfl
  · rw [cls, Spare.sweptBy]
    split
    · exact cls'
    · rfl
  · rw [zones, Spare.sweptBy]
    split
    · exact zones'
    · rfl
  · rw [status, margin, Spare.sweptBy, if_pos sweep, pass]
    exact ⟨rfl, rfl⟩
  · rw [status, margin, Spare.sweptBy, if_pos sweep, fail]
    exact ⟨rfl, rfl⟩
  · rw [status, margin, Spare.sweptBy, if_neg other]
    exact ⟨rfl, rfl⟩
  · exact (slotKept_of_slots (others i other)).trans (ended.slots i)
  · rw [ended.queue, same]
    rfl
  · intro h
    rw [ended.lasting, same]
    rfl
  · rw [ended.talk, same]
    rfl
  · exact State.sameVenue.trans (by rw [same]; exact ⟨rfl, rfl, rfl, rfl, rfl, rfl⟩) ended.venue
  · exact (SameOutside.trans (by rw [same]; exact ⟨rfl, rfl, rfl, rfl, rfl⟩) ended.outside).same

end Sys2Proof.Machine
end

section
/-! The delivery of a verdict and the completion of a check (R44, R63, R66 to R73, R95, R101). -/

namespace Sys2Proof.Machine

open Sys2Proof

/-! ### What a delivery leaves unchanged -/

/-- What the delivery of a verdict at link `h` leaves as it was. -/
structure BesideLink (s t : State) (h : Nat) : Prop where
  links : ∀ g, g ≠ h → t.link g = s.link g
  engine : t.engine = s.engine
  slots : t.pool.slots = s.pool.slots
  threshold : t.pool.threshold = s.pool.threshold
  armed : t.pool.armed = s.pool.armed
  plans : t.plans = s.plans
  radio : t.radio = s.radio
  mtx : t.mtx = s.mtx
  outside : SameOutside s t

theorem BesideLink.refl (s : State) (h : Nat) : BesideLink s s h :=
  ⟨fun _ _ => rfl, rfl, rfl, rfl, rfl, rfl, rfl, rfl, .refl s⟩

theorem BesideLink.trans {s t u : State} {h : Nat} (a : BesideLink s t h) (b : BesideLink t u h) :
    BesideLink s u h :=
  ⟨fun g other => (b.links g other).trans (a.links g other), b.engine.trans a.engine, b.slots.trans a.slots,
    b.threshold.trans a.threshold, b.armed.trans a.armed, b.plans.trans a.plans, b.radio.trans a.radio,
    b.mtx.trans a.mtx, a.outside.trans b.outside⟩

theorem besideLink_setLink (s : State) (h : Nat) (l : Link) : BesideLink s (s.setLink h l) h :=
  ⟨fun _ other => s.link_setLink_other l other, rfl, rfl, rfl, rfl, rfl, rfl, rfl, ⟨rfl, rfl, rfl, rfl, rfl⟩⟩

theorem BesideLink.setTalk {s t : State} {h : Nat} (a : BesideLink s t h) (x : Talk) :
    BesideLink s (t.setTalk x) h :=
  a.trans ⟨fun _ _ => rfl, rfl, rfl, rfl, rfl, rfl, rfl, rfl, ⟨rfl, rfl, rfl, rfl, rfl⟩⟩

theorem BesideLink.restandAll {s t : State} {h : Nat} (a : BesideLink s t h) : BesideLink s t.restandAll h := by
  rw [State.restandAll_eq]
  exact a.setTalk _

theorem BesideLink.notify {s t : State} {h : Nat} (a : BesideLink s t h) (n : Notice) :
    BesideLink s (t.notify n) h :=
  a.trans ⟨fun _ _ => rfl, rfl, rfl, rfl, rfl, rfl, rfl, rfl, ⟨rfl, rfl, rfl, rfl, rfl⟩⟩

theorem besideLink_enterFree (s : State) (h : Nat) : BesideLink s (s.enterFree h) h :=
  BesideLink.restandAll (BesideLink.setTalk (t := (s.setLink h Link.free).wantSweep)
    ((besideLink_setLink s h Link.free).trans ⟨fun _ _ => rfl, rfl, rfl, rfl, rfl, rfl, rfl, rfl,
      ⟨rfl, rfl, rfl, rfl, rfl⟩⟩) _)

/-- A verdict touches the record of its job, the keys of its pack, the sweep and the notices. -/
theorem besideLink_deliver (s : State) (j : Job) (v : Verdict) : BesideLink s (s.deliver j v) j.handle := by
  have set := fun l => besideLink_setLink s j.handle l
  unfold State.deliver
  simp only
  split
  · cases v with
    | pass => exact ((set _).restandAll).notify _
    | fail => exact (besideLink_enterFree s _).notify _
    | noSpare => exact (besideLink_enterFree s _).notify _
  · split
    · exact (set _).notify _
    · cases v with
      | pass => exact (set _).notify _
      | fail => exact (set _).notify _
      | noSpare n =>
        simp only [State.retuneVerdict]
        split
        · exact (set _).notify _
        · exact (set _).notify _
  · exact .refl s _

/-! ### What a delivery does at its link -/

theorem State.setTalk_link (s : State) (x : Talk) (h : Nat) : (s.setTalk x).link h = s.link h := rfl

section

variable {s : State} {j : Job} (lt : j.handle < 160)

/-- The record a delivery leaves, with the notice that follows it. -/
def State.delivers (s : State) (j : Job) (v : Verdict) (l : Link) (n : Notice) : Prop :=
  (s.deliver j v).link j.handle = l ∧ (s.deliver j v).port = s.port.queue n

include lt

/-- An admission that passed SETTLES (R66). -/
theorem delivers_admitted (checking : (s.link j.handle).state = .checking) (f m : Nat) (t : Option TermRef) :
    s.delivers j (.pass f m t) ((s.link j.handle).admitted f)
      (.checkResult j.kind j.handle j.forced (.pass f m t) .settling) := by
  unfold State.delivers State.deliver
  simp only [checking, State.admissionVerdict, State.checkResult, State.restandAll_eq, State.notify_link,
    State.setTalk_link]
  exact ⟨s.link_setLink_same _ lt, rfl⟩

/-- An admission that did not pass is freed (R67). -/
theorem delivers_freed (checking : (s.link j.handle).state = .checking) {v : Verdict} (no : v.isPass = false) :
    s.delivers j v Link.free (.checkResult j.kind j.handle j.forced v .free) := by
  unfold State.delivers State.deliver
  simp only [checking]
  cases v with
  | pass => cases no
  | fail => exact ⟨s.link_setLink_same _ lt, rfl⟩
  | noSpare => exact ⟨s.link_setLink_same _ lt, rfl⟩

/-- A MOVE takes its zones on a pass, and leaves them otherwise (R73). -/
theorem delivers_moved (recheck : (s.link j.handle).state = .recheck)
    (move : (s.link j.handle).job = some .move) (v : Verdict) :
    s.delivers j v { (s.link j.handle).backActive with
        zones := if v.isPass then j.zones else (s.link j.handle).zones }
      (.checkResult j.kind j.handle j.forced v .active) := by
  unfold State.delivers State.deliver
  simp only [recheck, if_pos move]
  exact ⟨s.link_setLink_same _ lt, rfl⟩

/-- A retune that passed is granted (R70). -/
theorem delivers_granted (recheck : (s.link j.handle).state = .recheck)
    (move : (s.link j.handle).job ≠ some .move) (f m : Nat) (t : Option TermRef) :
    s.delivers j (.pass f m t) ((s.link j.handle).granted f (s.onAir j.handle))
      (.checkResult j.kind j.handle j.forced (.pass f m t)
        ((s.link j.handle).granted f (s.onAir j.handle)).state) := by
  unfold State.delivers State.deliver
  simp only [recheck, if_neg move]
  exact ⟨s.link_setLink_same _ lt, rfl⟩

/-- A retune that did not pass returns to ACTIVE (R71). -/
theorem delivers_returned (recheck : (s.link j.handle).state = .recheck)
    (move : (s.link j.handle).job ≠ some .move) {v : Verdict} (no : v.isPass = false)
    (auto : (s.link j.handle).job = some .auto → ∃ f d, v = .fail f d) :
    s.delivers j v (s.link j.handle).backActive (.checkResult j.kind j.handle j.forced v .active) := by
  unfold State.delivers State.deliver
  simp only [recheck, if_neg move]
  cases v with
  | pass => cases no
  | fail => exact ⟨s.link_setLink_same _ lt, rfl⟩
  | noSpare n =>
    have manual : (s.link j.handle).job ≠ some .auto := fun e => by
      obtain ⟨f, d, fail⟩ := auto e
      cases fail
    simp only [State.retuneVerdict, if_neg manual]
    exact ⟨s.link_setLink_same _ lt, rfl⟩

/-- An AUTO job that found no spare is referred (R105). -/
theorem delivers_referred (recheck : (s.link j.handle).state = .recheck)
    (auto : (s.link j.handle).job = some .auto) (n : Nat) :
    s.delivers j (.noSpare n) ((s.link j.handle).toReferred (s.now + s.engine.prof.windowMs))
      (.referral j.handle ((s.link j.handle).carrier.getD 0) (.pool n) (s.link j.handle).interference) := by
  unfold State.delivers State.deliver
  simp only [recheck, if_neg (show (s.link j.handle).job ≠ some .move by simp [auto]), State.retuneVerdict,
    if_pos auto]
  exact ⟨s.link_setLink_same _ lt, rfl⟩

end

/-! ### The recheck of the pool (R95) -/

/-- A spare as a recheck leaves it. -/
def State.rejudge (s : State) (sp : Spare) : Spare :=
  if sp.status = .clear then (s.check s.occupied (s.spareCandidate sp)).apply sp else sp

theorem slots_recheck (s : State) (i : Nat) :
    s.recheck.pool.slots.get i none = (s.pool.slots.get i none).map s.rejudge := by
  have recheck : s.recheck.pool.slots = s.pool.slots.mapIdx fun _ x => x.map s.rejudge := rfl
  rw [recheck, Tab.get_mapIdx _ _ _ none]
  split
  · rfl
  · rename_i out
    rw [s.pool.slots.get_out none (Nat.le_of_not_lt out)]
    rfl

theorem rejudged_rejudge (s : State) (sp : Spare) : s.rejudged sp (s.rejudge sp) := by
  unfold State.rejudge
  split
  · rename_i clear
    obtain ⟨step, cls, zones⟩ := Finding.apply_fields sp (s.check s.occupied (s.spareCandidate sp))
    refine ⟨step, cls, zones, fun spoiled => absurd clear spoiled,
      fun _ => ⟨fun m tm pass => ?_, fun e fail => ?_⟩⟩
    · rw [State.spareCandidate, pass]
      exact ⟨rfl, rfl⟩
    · rw [State.spareCandidate, fail]
      exact ⟨rfl, rfl⟩
  · rename_i other
    exact ⟨rfl, rfl, rfl, fun _ => ⟨rfl, rfl⟩, fun clear => absurd clear other⟩

/-- The mark of a spare and the end of the event do not bear on its judgment. -/
theorem State.rejudged.ended {u t : State} (e : Ended u t) {sp a b : Spare} (h : u.rejudged sp a)
    (kept : ({ b with inUse := .none } : Spare) = { a with inUse := .none }) : t.rejudged sp b := by
  obtain ⟨step, cls, zones, status, margin⟩ := Spare.fields_of_unmarked kept
  have prof : t.engine.prof = u.engine.prof := by rw [Engine.prof, e.profile, Engine.prof]
  unfold State.rejudged at h ⊢
  rwa [e.check, e.occupied, prof, step, cls, zones, status, margin]

/-- The slots of a pool rechecked in an event are judged against what the event leaves (R95). -/
theorem slotRejudged_recheck {s u t : State} (e : Ended u.recheck t) {i : Nat}
    (slot : u.pool.slots.get i none = s.pool.slots.get i none) : s.slotRejudged t i := by
  have slot' := slots_recheck u i
  rw [slot] at slot'
  refine ⟨fun none => (e.slots i).of_none (by rw [slot', none]; rfl), fun sp some => ?_⟩
  obtain ⟨sp', own, kept⟩ := (e.slots i).of_some (sp := u.rejudge sp) (by rw [slot', some]; rfl)
  exact ⟨sp', own, State.rejudged.ended (u := u.recheck) e (rejudged_rejudge u sp) kept⟩

/-! ### The completion of a job (R44, R63) -/

/-- What the completion of job `j` leaves before the low-pool evaluation. -/
def State.judgedBy (s : State) (j : Job) (v : Verdict) : State :=
  if v.isPass then (s.dropHead.deliver j v).recheck else s.dropHead.deliver j v

theorem completeJob_valid {s : State} {j : Job} (valid : j.void = false) (v : Verdict) (n : Nat) :
    s.completeJob j v n = (s.judgedBy j v).lowPoolSince n := by
  rw [State.completeJob, if_neg (by simp [valid])]
  rfl

theorem completeJob_void {s : State} {j : Job} (void : j.void = true) (v : Verdict) (n : Nat) :
    s.completeJob j v n = s.dropHead := by
  rw [State.completeJob, if_pos void]

/-- What a recheck leaves of the state it is made in. -/
theorem judgedBy_eq (s : State) (j : Job) (v : Verdict) :
    s.judgedBy j v = (s.dropHead.deliver j v).setPool (s.judgedBy j v).pool
      ∧ (s.judgedBy j v).pool.threshold = (s.dropHead.deliver j v).pool.threshold
      ∧ (s.judgedBy j v).pool.armed = (s.dropHead.deliver j v).pool.armed := by
  unfold State.judgedBy
  split <;> exact ⟨rfl, rfl, rfl⟩

/-- The completion of a job that is not void, in an event that ends in state `t`. -/
structure Completed (s t : State) (j : Job) (v : Verdict) (rest : List Job) : Prop where
  queue : t.engine.queue = rest
  other : s.otherLinks t j.handle
  venue : s.sameVenue t
  outside : s.sameOutside t
  kept : v.isPass = false → ∀ i, s.slotKept t i
  passed : v.isPass = true → ∀ i, s.slotRejudged t i

theorem judgedBy_keeps {s : State} {j : Job} {rest : List Job} (queue : s.engine.queue = j :: rest)
    (v : Verdict) : (s.judgedBy j v).engine.queue = rest
      ∧ (∀ g, g ≠ j.handle → (s.judgedBy j v).link g = s.link g) ∧ s.sameVenue (s.judgedBy j v)
      ∧ SameOutside s (s.judgedBy j v) ∧ (s.judgedBy j v).radio = s.radio
      ∧ (s.judgedBy j v).pool.threshold = s.pool.threshold
      ∧ (s.judgedBy j v).pool.armed = s.pool.armed
      ∧ (s.judgedBy j v).port = (s.dropHead.deliver j v).port
      ∧ (s.judgedBy j v).link j.handle = (s.dropHead.deliver j v).link j.handle := by
  obtain ⟨e, threshold, armed⟩ := judgedBy_eq s j v
  have beside := besideLink_deliver s.dropHead j v
  refine ⟨?_, ?_, ?_, ?_, ?_, threshold.trans beside.threshold, armed.trans beside.armed, by rw [e]; rfl,
    by rw [e]; rfl⟩
  all_goals rw [e]
  · rw [State.setPool_engine, beside.engine, State.dropHead, State.setEngine_engine, queue]
    rfl
  · exact beside.links
  · exact ⟨(congrArg Engine.profile beside.engine :), (congrArg Engine.blocked beside.engine :), beside.plans,
      congrArg Radio.cts beside.radio, congrArg Radio.received beside.radio,
      congrArg Matrix.received beside.mtx⟩
  · obtain ⟨tally, lines, pins, now, pending⟩ := beside.outside
    exact ⟨tally, lines, pins, now, pending⟩
  · exact beside.radio

section

variable {s : State} {j : Job} {rest : List Job} (queue : s.engine.queue = j :: rest) (calm : calmRest rest)
  (valid : j.void = false) (s0 : State) (v : Verdict)

include queue calm

theorem quiet_judgedBy : (s.judgedBy j v).quiet := by
  obtain ⟨left, -⟩ := judgedBy_keeps queue v
  exact quiet_of_calm (left ▸ calm)

include valid

theorem ended_completeJob (n : Nat) :
    Ended (s.judgedBy j v) (State.finish s0 (s.completeJob j v n)) :=
  completeJob_valid valid v n ▸ ended_finish s0 (quiet_judgedBy queue calm v) n

theorem completed_finish (n : Nat) : Completed s (State.finish s0 (s.completeJob j v n)) j v rest := by
  have ended := ended_completeJob queue calm valid s0 v n
  obtain ⟨left, links, venue, outside, -⟩ := judgedBy_keeps queue v
  have slots := (besideLink_deliver s.dropHead j v).slots
  refine ⟨ended.queue.trans left, fun g other => by rw [ended.lasting, links g other], venue.trans ended.venue,
    (outside.trans ended.outside).same, fun no i => ?_, fun pass i => ?_⟩
  · have judged : s.judgedBy j v = s.dropHead.deliver j v := by simp [State.judgedBy, no]
    exact (slotKept_of_slots (by rw [judged, slots]; rfl)).trans (ended.slots i)
  · have judged : s.judgedBy j v = (s.dropHead.deliver j v).recheck := by simp [State.judgedBy, pass]
    rw [judged] at ended
    exact slotRejudged_recheck ended (by rw [slots]; rfl)

/-- The record delivered stands at the end of the event, save for what a transmitter's start may write. -/
theorem becomes_finish {l : Link} {n : Notice} (d : s.dropHead.delivers j v l n) (count : Nat) :
    s.linkBecomes (State.finish s0 (s.completeJob j v count)) j.handle l := by
  have ended := ended_completeJob queue calm valid s0 v count
  obtain ⟨-, -, -, -, radio, -, -, -, own⟩ := judgedBy_keeps queue v
  have own := own.trans d.1
  refine ⟨by rw [ended.lasting, own], fun held => ?_⟩
  rw [← own, State.link, ended.held (by rwa [State.radioHeld, radio])]
  rfl

/-- The notice delivered is queued, and the low-pool evaluation follows it. -/
theorem judges_finish {l : Link} {n : Notice} (d : s.dropHead.delivers j v l n) {b : State}
    (threshold : s.pool.threshold = b.pool.threshold) (armed : s.pool.armed = b.pool.armed) :
    b.lowPoolJudged (State.finish s0 (s.completeJob j v b.pool.clearCount)) (s.port.queue n) := by
  obtain ⟨-, -, -, -, -, threshold', armed', port, -⟩ := judgedBy_keeps queue v
  have judged := judged_finish s0 (b := b) (quiet_judgedBy queue calm v) (threshold'.trans threshold)
    (armed'.trans armed)
  rw [completeJob_valid valid]
  rwa [port, d.2] at judged

end

/-- A voided job leaves the queue and delivers nothing (R63). -/
theorem ended_void {s : State} {j : Job} {rest : List Job} (queue : s.engine.queue = j :: rest)
    (calm : calmRest rest) (s0 : State) :
    SameButEnd s.dropHead (State.finish s0 s.dropHead)
      ∧ s.dropHead.engine.queue = rest ∧ ∀ i, s.slotKept (State.finish s0 s.dropHead) i := by
  have left : s.dropHead.engine.queue = rest := by
    rw [State.dropHead, State.setEngine_engine, queue]
    rfl
  have quiet : s.dropHead.quiet := quiet_of_calm (left ▸ calm)
  exact ⟨sameButEnd_finish s0 quiet, left, slotKept_finish (s := s.dropHead) s0 quiet⟩

end Sys2Proof.Machine
end

section
/-! The completion of a check delivers its verdict (O30). -/

namespace Sys2Proof.Machine

open Sys2Proof

/-- A link on air waits for its retune unless it is forced (R70). -/
theorem Link.granted_waits {l : Link} (forced : l.forced = false) (f : Nat) :
    l.granted f true
      = { l with state := .retuneWait, target := some f, job := none, order := none, timer := none } := by
  simp [Link.granted, forced]

theorem Link.granted_goes {l : Link} {on : Bool} (off : on = false ∨ l.forced = true) (f : Nat) :
    l.granted f on = { l with
      state := .settling, target := some f, job := none, order := some (.tune f), timer := none } := by
  rw [Link.granted, if_neg]
  rcases off with e | e <;> simp [e]

theorem exec_checkCompletion {s : State} {occ : List Party} {failures f : Nat} {j : Job} {rest : List Job}
    (live : s.pins.inReset = false) (work : s.engine.work = .job occ none failures)
    (queue : s.engine.queue = j :: rest) (step : j.step = some f) :
    exec .checkCompletion s = .next (State.finish s
      (s.completeJob j ((s.check occ (s.jobCandidate j f)).verdict f) s.pool.clearCount)) := by
  refine congrArg Host.Outcome.next ((event_live live _).trans ?_)
  have running := Engine.running_eq_some_iff.mpr ⟨work, rest, queue⟩
  simp [State.checkCompletes, running, step]

section

variable {s : State} {j : Job} {rest : List Job} {f m : Nat} {tm : Option TermRef} {e : FailDetail}
  (queue : s.engine.queue = j :: rest) (calm : calmRest rest) (valid : j.void = false) (lt : j.handle < 160)

include queue calm valid

/-- A verdict that is no pass changes no number of CLEAR spares: the alert is as it was. -/
theorem armed_completeJob {v : Verdict} (no : v.isPass = false) :
    (State.finish s (s.completeJob j v s.pool.clearCount)).pool.armed = s.pool.armed := by
  obtain ⟨-, -, -, -, -, threshold, armed, -, -⟩ := judgedBy_keeps queue v
  have judged := judged_finish s (b := s) (quiet_judgedBy queue calm v) threshold armed
  rw [← completeJob_valid valid] at judged
  exact (judged.unchanged ((completed_finish queue calm valid s v s.pool.clearCount).kept no)).1

/-- Record `l` and a notice delivered, with the low-pool evaluation after it. -/
theorem delivered_judged (s0 : State) {v : Verdict} {l : Link} {n : Notice} (d : s.dropHead.delivers j v l n) :
    s.linkBecomes (State.finish s0 (s.completeJob j v s.pool.clearCount)) j.handle l
      ∧ s.lowPoolJudged (State.finish s0 (s.completeJob j v s.pool.clearCount)) (s.port.queue n) :=
  ⟨becomes_finish queue calm valid s0 v d _, judges_finish queue calm valid s0 v d rfl rfl⟩

/-- Record `l` and a notice delivered by a verdict that is no pass: there is no low-pool evaluation. -/
theorem delivered_unjudged (s0 : State) {v : Verdict} {l : Link} {n : Notice} (no : v.isPass = false)
    (d : s.dropHead.delivers j v l n) :
    s.linkBecomes (State.finish s0 (s.completeJob j v s.pool.clearCount)) j.handle l
      ∧ (State.finish s0 (s.completeJob j v s.pool.clearCount)).port = s.port.queue n := by
  obtain ⟨becomes, judged⟩ := delivered_judged queue calm valid s0 d
  exact ⟨becomes, (judged.unchanged
    ((completed_finish queue calm valid s0 v s.pool.clearCount).kept no)).2⟩

include lt

/-- A grant makes a link wait that is on air and not forced, and tunes it otherwise (R70). -/
theorem delivered_granted (recheck : (s.link j.handle).state = .recheck)
    (move : (s.link j.handle).job ≠ some .move) :
    (s.onAir j.handle = true → (s.link j.handle).forced = false →
      s.linkBecomes (State.finish s (s.completeJob j (.pass f m tm) s.pool.clearCount)) j.handle
        { s.link j.handle with
          state := .retuneWait, target := some f, job := none, order := none, timer := none }
      ∧ s.lowPoolJudged (State.finish s (s.completeJob j (.pass f m tm) s.pool.clearCount))
          (s.port.queue (.checkResult j.kind j.handle j.forced (.pass f m tm) .retuneWait)))
    ∧ (s.onAir j.handle = false ∨ (s.link j.handle).forced = true →
      s.linkBecomes (State.finish s (s.completeJob j (.pass f m tm) s.pool.clearCount)) j.handle
        { s.link j.handle with
          state := .settling, target := some f, job := none, order := some (.tune f), timer := none }
      ∧ s.lowPoolJudged (State.finish s (s.completeJob j (.pass f m tm) s.pool.clearCount))
          (s.port.queue (.checkResult j.kind j.handle j.forced (.pass f m tm) .settling))) := by
  have granted : s.dropHead.delivers j (.pass f m tm) ((s.link j.handle).granted f (s.onAir j.handle)) _ :=
    delivers_granted (s := s.dropHead) lt recheck move f m tm
  refine ⟨fun on forced => ?_, fun off => ?_⟩
  · have waits := Link.granted_waits forced f
    have := delivered_judged queue calm valid s granted
    rw [on] at this
    have state : ((s.dropHead.link j.handle).granted f (s.dropHead.onAir j.handle)).state = .retuneWait := by
      show ((s.link j.handle).granted f (s.onAir j.handle)).state = _
      rw [on, waits]
    rwa [waits, state] at this
  · have goes := Link.granted_goes off f
    have := delivered_judged queue calm valid s granted
    have state : ((s.dropHead.link j.handle).granted f (s.dropHead.onAir j.handle)).state = .settling := by
      show ((s.link j.handle).granted f (s.onAir j.handle)).state = _
      rw [goes]
    rwa [goes, state] at this

end

/-- Settles O30: the verdict is delivered at the record of the job, a pass rechecks the pool, and the end of the
event marks spares at most. -/
theorem checkCompletionDelivers : Obligations.CheckCompletionDelivers := by
  intro s occ failures f j rest live work queue calm step lt
  have run := exec_checkCompletion live work queue step
  cases void : j.void with
  | true =>
    obtain ⟨ended, left, kept⟩ := ended_void queue calm s
    rw [completeJob_void void] at run
    refine ⟨_, run, ended.queue.trans left, fun g _ => ended.lasting g, ended.venue, ended.outside.same,
      fun _ => ⟨ended.lasting _, ended.port, ended.talk, ended.armed, kept⟩, ?_, ?_, ?_, ?_⟩
    all_goals exact fun valid => by cases valid
  | false =>
    have done := fun v => completed_finish queue calm void s v s.pool.clearCount
    cases found : s.check occ (s.jobCandidate j f) with
    | pass m tm =>
      rw [found] at run
      obtain ⟨left, other, venue, outside, -, passed⟩ := done (.pass f m tm)
      refine ⟨_, run, left, other, venue, outside, (fun h => by cases h), fun _ => ⟨fun _ _ _ => passed rfl,
        (fun e h => by cases h)⟩, fun _ checking => ⟨?_, (fun e h => by cases h)⟩,
        fun _ recheck move => ⟨?_, (fun e h => by cases h)⟩,
        fun _ recheck move => ⟨?_, ?_, (fun e h => by cases h)⟩⟩
      · rintro _ _ ⟨⟩
        exact delivered_judged queue calm void s (delivers_admitted (s := s.dropHead) lt checking f m tm)
      · rintro _ _ ⟨⟩
        exact delivered_granted queue calm void lt recheck move
      · exact (delivered_judged queue calm void s
          (delivers_moved (s := s.dropHead) lt recheck move (.pass f m tm))).1
      · rintro _ _ ⟨⟩
        exact (delivered_judged queue calm void s
          (delivers_moved (s := s.dropHead) lt recheck move (.pass f m tm))).2
    | fail d =>
      rw [found] at run
      obtain ⟨left, other, venue, outside, kept, -⟩ := done (.fail f d)
      have unjudged := fun {l n} => delivered_unjudged (l := l) (n := n) queue calm void s (v := .fail f d) rfl
      refine ⟨_, run, left, other, venue, outside, (fun h => by cases h), fun _ => ⟨(fun m tm h => by cases h),
        fun _ _ => ⟨armed_completeJob queue calm void rfl, kept rfl⟩⟩,
        fun _ checking => ⟨(fun m tm h => by cases h), ?_⟩,
        fun _ recheck move => ⟨(fun m tm h => by cases h), ?_⟩,
        fun _ recheck move => ⟨?_, (fun m tm h => by cases h), ?_⟩⟩
      · rintro _ ⟨⟩
        obtain ⟨becomes, port⟩ := unjudged (delivers_freed (s := s.dropHead) lt checking rfl)
        exact ⟨becomes.1, port⟩
      · rintro _ ⟨⟩
        exact unjudged (delivers_returned (s := s.dropHead) lt recheck move rfl fun _ => ⟨f, d, rfl⟩)
      · exact (unjudged (delivers_moved (s := s.dropHead) lt recheck move (.fail f d))).1
      · rintro _ ⟨⟩
        exact (unjudged (delivers_moved (s := s.dropHead) lt recheck move (.fail f d))).2

end Sys2Proof.Machine
end

section
/-! The end of a trial (O32): R60, R63, R95, R97, R100, R101. -/

namespace Sys2Proof.Machine

open Sys2Proof

/-! ### Naming a spare (R97) -/

theorem bestClear_mem {l : List (Spare × Nat)} {x : Spare × Nat} (h : bestClear l = some x) : x ∈ l := by
  induction l generalizing x with
  | nil => cases h
  | cons y ys ih =>
    unfold bestClear at h
    split at h
    · cases h
      exact List.mem_cons_self
    · rename_i z best
      split at h
      · cases h
        exact List.mem_cons_of_mem _ (ih best)
      · cases h
        exact List.mem_cons_self

/-- The spare named for a pool job stands in its slot, and is not SPOILED. -/
theorem Pool.pick_spare {p : Pool} {j : Job} {i : Nat} (h : p.pick j = some i) :
    ∃ sp, p.slots.get i none = some sp ∧ sp.status ≠ .spoiled := by
  simp only [Pool.pick, Option.map_eq_some_iff, Option.orElse_eq_some] at h
  obtain ⟨x, named, rfl⟩ := h
  have found : x ∈ p.spares ∧ x.1.status ≠ .spoiled := by
    rcases named with clear | ⟨-, unchecked⟩
    · have mem := bestClear_mem clear
      simp only [List.mem_filter, beq_iff_eq] at mem
      exact ⟨mem.1.1, by simp [mem.2]⟩
    · have mem := List.mem_of_find?_eq_some unchecked
      have status := List.find?_some unchecked
      simp only [beq_iff_eq] at status
      exact ⟨(List.mem_filter.mp mem).1, by simp [status]⟩
  exact ⟨x.1, (p.mem_spares x.1 x.2).mp found.1, found.2⟩

theorem Pool.mark_get {p : Pool} {slot : Nat} {sp : Spare} (lt : slot < 32) (u : InUse)
    (h : p.slots.get slot none = some sp) :
    (p.mark slot u).slots.get slot none = some { sp with inUse := u } := by
  simp [Pool.mark, h, Pool.setSlot, lt]

theorem Pool.mark_other (p : Pool) {slot i : Nat} (u : InUse) (other : i ≠ slot) :
    (p.mark slot u).slots.get i none = p.slots.get i none := by
  unfold Pool.mark
  split
  · exact Tab.get_set_other _ _ _ other
  · rfl

theorem Pool.slot_lt {p : Pool} {i : Nat} {sp : Spare} (h : p.slots.get i none = some sp) : i < 32 := by
  by_contra out
  rw [p.slots.get_out none (Nat.le_of_not_lt out)] at h
  cases h

/-! ### The three ends of a trial -/

section

variable {s : State} {occ : List Party} {slot failures : Nat} {j : Job} {rest : List Job} {sp : Spare}

section

variable (work : s.engine.work = .job occ (some slot) failures) (queue : s.engine.queue = j :: rest)
  (spare : s.pool.slots.get slot none = some sp)

include work queue spare

theorem trialEnds_void (void : j.void = true) :
    s.trialEnds = (s.setPool (s.pool.mark slot .none)).dropHead := by
  have running := Engine.running_eq_some_iff.mpr ⟨work, rest, queue⟩
  simp [State.trialEnds, running, spare, void]

theorem trialEnds_pass (valid : j.void = false) {m : Nat} {t : Option TermRef}
    (pass : s.check occ (s.jobCandidate j sp.step) = .pass m t) :
    s.trialEnds
      = (s.setPool (s.pool.setSlot slot none)).completeJob j (.pass sp.step m t) s.pool.clearCount := by
  have running := Engine.running_eq_some_iff.mpr ⟨work, rest, queue⟩
  simp [State.trialEnds, running, spare, valid, pass]

theorem trialEnds_fail (valid : j.void = false) {d : FailDetail}
    (fail : s.check occ (s.jobCandidate j sp.step) = .fail d) :
    s.trialEnds = s.trialFails j occ slot sp (failures + 1) := by
  have running := Engine.running_eq_some_iff.mpr ⟨work, rest, queue⟩
  simp [State.trialEnds, running, spare, valid, fail]

end

/-- The pool with the spare on trial SPOILED. -/
def Pool.spoil (p : Pool) (slot : Nat) (sp : Spare) : Pool :=
  p.setSlot slot (some { sp with status := .spoiled, margin := none, inUse := .none })

/-- The next trial of the job begins (R60). -/
def State.nextTrial (s : State) (occ : List Party) (slot : Nat) (sp : Spare) (next failures : Nat) : State :=
  (s.setPool ((s.pool.spoil slot sp).mark next .trial)).setWork (.job occ (some next) failures)

theorem trialFails_next {next : Nat} (few : failures < 3) (pick : (s.pool.spoil slot sp).pick j = some next) :
    s.trialFails j occ slot sp (failures + 1)
      = (s.nextTrial occ slot sp next (failures + 1)).lowPoolSince s.pool.clearCount := by
  have pick : (s.pool.setSlot slot (some { sp.spoiled with inUse := .none })).pick j = some next := pick
  have few : ¬ 4 ≤ failures + 1 := by omega
  simp only [State.trialFails, if_neg few, State.setPool_pool, pick]
  rfl

/-- The fourth trial that fails, or the last spare that matches, ends the job with NO_SPARE (R60). -/
theorem trialFails_last (last : 3 ≤ failures ∨ (s.pool.spoil slot sp).pick j = none) :
    s.trialFails j occ slot sp (failures + 1)
      = (s.setPool (s.pool.spoil slot sp)).completeJob j (.noSpare (failures + 1)) s.pool.clearCount := by
  unfold State.trialFails
  simp only
  split
  · rfl
  · rename_i few
    have pick : (s.pool.setSlot slot (some { sp.spoiled with inUse := .none })).pick j = none :=
      last.resolve_left (by omega)
    simp only [State.setPool_pool, pick]
    rfl

/-- What the end of the event leaves of a trial that goes on with the next spare. -/
structure TrialGoesOn (s t : State) (occ : List Party) (slot : Nat) (sp : Spare) (next failures : Nat) :
    Prop where
  links : ∀ h, (t.link h).lasting = (s.link h).lasting
  venue : s.sameVenue t
  outside : s.sameOutside t
  work : t.engine.work = .job occ (some next) failures
  queue : t.engine.queue = s.engine.queue
  spoiled : t.pool.slots.get slot none
    = some { sp with status := .spoiled, margin := none, inUse := .none }
  trial : (t.pool.slots.get next none).map (·.inUse) = some .trial
  kept : ∀ i, i ≠ slot → s.slotKept t i
  judged : s.lowPoolJudged t s.port

theorem trialGoesOn_finish (s0 : State) {next : Nat} (lt : slot < 32)
    (pick : (s.pool.spoil slot sp).pick j = some next) :
    TrialGoesOn s (State.finish s0 ((s.nextTrial occ slot sp next failures).lowPoolSince s.pool.clearCount))
      occ slot sp next failures := by
  have quiet : (s.nextTrial occ slot sp next failures).quiet := fun idle => by cases idle
  have ended := ended_finish s0 quiet s.pool.clearCount
  have alert := sameButAlert_lowPoolSince s.pool.clearCount (s.nextTrial occ slot sp next failures)
  have judged := judged_finish s0 (b := s) quiet (Pool.mark_threshold _ _ _) (Pool.mark_armed _ _ _)
  have working : (State.lowPoolSince s.pool.clearCount (s.nextTrial occ slot sp next failures)).engine.work
      ≠ .idle := by
    rw [alert.engine]
    exact fun idle => by cases idle
  have slots : (State.finish s0 ((s.nextTrial occ slot sp next failures).lowPoolSince
      s.pool.clearCount)).pool.slots = ((s.pool.spoil slot sp).mark next .trial).slots := by
    rw [finish_pool, engineKick_working working, alert.slots]
    rfl
  have spoiled : (s.pool.spoil slot sp).slots.get slot none
      = some { sp with status := .spoiled, margin := none, inUse := .none } := Tab.get_set_same _ _ _ lt
  obtain ⟨named, stands, fresh⟩ := Pool.pick_spare pick
  have other : slot ≠ next := by
    rintro rfl
    rw [spoiled] at stands
    cases stands
    exact fresh rfl
  refine ⟨ended.lasting, ended.venue, ended.outside.same, ?_, ended.queue, ?_, ?_, fun i apart => ?_, judged⟩
  · rw [finish_engine, engineKick_working working, alert.engine]
    rfl
  · rw [slots, Pool.mark_other _ _ other, spoiled]
  · rw [slots, Pool.mark_get (Pool.slot_lt stands) _ stands]
    rfl
  · rw [State.slotKept, slots, Pool.mark_kept, Pool.spoil, Pool.setSlot, Tab.get_set_other _ _ _ apart]

end

theorem exec_trialEnd {s : State} (live : s.pins.inReset = false) :
    exec .trialEnd s = .next (State.finish s s.trialEnds) :=
  congrArg Host.Outcome.next (event_live live _)

theorem slotKept_setSlot {s t : State} {slot i : Nat} {x : Option Spare} (other : i ≠ slot)
    (h : (s.setPool (s.pool.setSlot slot x)).slotKept t i) : s.slotKept t i :=
  (slotKept_of_slots (Tab.get_set_other _ _ _ other)).trans h

theorem slotRejudged_setSlot {s t : State} {slot i : Nat} {x : Option Spare} (other : i ≠ slot)
    (h : (s.setPool (s.pool.setSlot slot x)).slotRejudged t i) : s.slotRejudged t i := by
  have slots : (s.setPool (s.pool.setSlot slot x)).pool.slots.get i none = s.pool.slots.get i none :=
    Tab.get_set_other _ _ _ other
  unfold State.slotRejudged at h
  rwa [slots] at h

/-! ### A pass, a NO_SPARE and a voided job -/

section

variable {s : State} {j : Job} {rest : List Job} (queue : s.engine.queue = j :: rest) (calm : calmRest rest)
  (lt : j.handle < 160) (p : Pool)

include queue calm

/-- The trial of a voided job leaves all but the queue and the spare's mark (R63). -/
theorem voided_trial (slot : Nat) (s0 : State) :
    let t := State.finish s0 (s.setPool (s.pool.mark slot .none)).dropHead
    t.engine.queue = rest ∧ (∀ h, (t.link h).lasting = (s.link h).lasting) ∧ t.port = s.port ∧ t.talk = s.talk
      ∧ t.pool.armed = s.pool.armed ∧ (∀ i, s.slotKept t i) ∧ s.sameVenue t ∧ s.sameOutside t := by
  intro t
  obtain ⟨ended, left, kept⟩ := ended_void (s := s.setPool (s.pool.mark slot .none)) queue calm s0
  exact ⟨ended.queue.trans left, ended.lasting, ended.port, ended.talk,
    ended.armed.trans (Pool.mark_armed _ _ _), fun i => Eq.trans (kept i) (Pool.mark_kept _ _ _ _),
    ended.venue, ended.outside.same⟩

variable (valid : j.void = false)

include valid

/-- A job that completes with pool `p`, whose alert is as it was: the record and the notice delivered, and the
low-pool evaluation. -/
theorem delivered_with (threshold : p.threshold = s.pool.threshold) (armed : p.armed = s.pool.armed)
    {v : Verdict} {l : Link} {n : Notice} (d : (s.setPool p).dropHead.delivers j v l n) :
    s.linkBecomes (State.finish s ((s.setPool p).completeJob j v s.pool.clearCount)) j.handle l
      ∧ s.lowPoolJudged (State.finish s ((s.setPool p).completeJob j v s.pool.clearCount)) (s.port.queue n) :=
  ⟨becomes_finish (s := s.setPool p) queue calm valid s v d _,
    judges_finish (s := s.setPool p) queue calm valid s v d threshold armed⟩

include lt

/-- The grant of a spare's step (R70, R100). -/
theorem granted_with (threshold : p.threshold = s.pool.threshold) (armed : p.armed = s.pool.armed)
    (recheck : (s.link j.handle).state = .recheck) (move : (s.link j.handle).job ≠ some .move) (f m : Nat)
    (tm : Option TermRef) :
    let t := State.finish s ((s.setPool p).completeJob j (.pass f m tm) s.pool.clearCount)
    (t.link j.handle).target = some f
      ∧ (t.link j.handle).state
          = (if s.onAir j.handle = true ∧ (s.link j.handle).forced = false then .retuneWait else .settling)
      ∧ s.lowPoolJudged t (s.port.queue
          (.checkResult j.kind j.handle j.forced (.pass f m tm) (t.link j.handle).state)) := by
  intro t
  have granted := delivers_granted (s := (s.setPool p).dropHead) lt recheck move f m tm
  obtain ⟨becomes, judged⟩ := delivered_with queue calm p valid threshold armed granted
  have target : (t.link j.handle).target = ((s.link j.handle).granted f (s.onAir j.handle)).target :=
    (congrArg Link.target becomes.1 :)
  have state : (t.link j.handle).state = ((s.link j.handle).granted f (s.onAir j.handle)).state :=
    (congrArg Link.state becomes.1 :)
  refine ⟨target.trans ?_, state.trans ?_, ?_⟩
  · unfold Link.granted
    split <;> rfl
  · simp only [Link.granted, Bool.and_eq_true, Bool.not_eq_true']
    split <;> rfl
  · rw [state]
    exact judged

end

/-- Settles O32: the trial ends the job by a pass, by the next trial or by NO_SPARE, each with the low-pool
evaluation behind it. -/
theorem trialEnds : Obligations.TrialEnds := by
  intro s occ slot failures j rest sp live work queue calm lt slotLt spare
  have run := exec_trialEnd live
  refine ⟨fun valid => ?_, fun void => ?_⟩
  · cases found : s.check occ (s.jobCandidate j sp.step) with
    | pass m tm =>
      rw [trialEnds_pass work queue spare valid found] at run
      have completed := completed_finish (s := s.setPool (s.pool.setSlot slot none)) queue calm valid s
        (.pass sp.step m tm) s.pool.clearCount
      refine ⟨_, run, completed.other, completed.venue, completed.outside, ?_, (fun e next h => by cases h),
        fun e h => by cases h⟩
      rintro _ _ ⟨⟩
      refine ⟨(completed.passed rfl slot).1 (Tab.get_set_same _ _ _ slotLt), completed.queue,
        fun i other => slotRejudged_setSlot other (completed.passed rfl i), fun checking => ?_,
        fun recheck move => granted_with queue calm lt (s.pool.setSlot slot none) valid rfl rfl recheck move _ _ _⟩
      exact delivered_with queue calm (s.pool.setSlot slot none) valid rfl rfl
        (delivers_admitted (s := (s.setPool (s.pool.setSlot slot none)).dropHead) lt checking _ _ _)
    | fail d =>
      rw [trialEnds_fail work queue spare valid found] at run
      by_cases last : 3 ≤ failures ∨ (s.pool.spoil slot sp).pick j = none
      · simp only [trialFails_last last] at run
        have completed := completed_finish (s := s.setPool (s.pool.spoil slot sp)) queue calm valid s
          (.noSpare (failures + 1)) s.pool.clearCount
        have delivered := fun {l n} => delivered_with queue calm (s.pool.spoil slot sp) valid rfl rfl
          (v := .noSpare (failures + 1)) (l := l) (n := n)
        refine ⟨_, run, completed.other, completed.venue, completed.outside, (fun m tm h => by cases h),
          fun e next _ few pick => ?_, fun e _ _ => ⟨completed.queue, ?_,
            fun i other => slotKept_setSlot other (completed.kept rfl i), fun checking => ?_,
            fun recheck move auto => ?_, fun recheck auto => ?_⟩⟩
        · rcases last with many | none
          · exact absurd few (Nat.not_lt.mpr many)
          · cases none.symm.trans pick
        · exact (completed.kept rfl slot).of_some (Tab.get_set_same _ _ _ slotLt)
        · obtain ⟨becomes, judged⟩ := delivered
            (delivers_freed (s := (s.setPool (s.pool.spoil slot sp)).dropHead) lt checking rfl)
          exact ⟨becomes.1, judged⟩
        · exact delivered
            (delivers_returned (s := (s.setPool (s.pool.spoil slot sp)).dropHead) lt recheck move rfl
              fun e => absurd e auto)
        · obtain ⟨becomes, judged⟩ := delivered
            (delivers_referred (s := (s.setPool (s.pool.spoil slot sp)).dropHead) lt recheck auto (failures + 1))
          exact ⟨(congrArg Link.state becomes.1 :), judged⟩
      · obtain ⟨few, more⟩ := not_or.mp last
        obtain ⟨next, pick⟩ := Option.ne_none_iff_exists'.mp more
        simp only [trialFails_next (Nat.not_le.mp few) pick] at run
        have goes := trialGoesOn_finish (s := s) (occ := occ) (failures := failures + 1) s slotLt pick
        refine ⟨_, run, fun g _ => goes.links g, goes.venue, goes.outside, (fun m tm h => by cases h),
          fun e next' _ _ pick' => ?_, fun e _ h => absurd h last⟩
        cases pick.symm.trans pick'
        exact ⟨goes.spoiled, goes.trial, goes.work, goes.queue.trans queue, goes.judged, goes.kept,
          goes.links _⟩
  · rw [trialEnds_void work queue spare void] at run
    exact ⟨_, run, voided_trial queue calm slot s⟩

end Sys2Proof.Machine
end

section
/-! A pool job with no matching spare (O24): R60, R67, R71. -/

namespace Sys2Proof.Machine

open Sys2Proof

/-- An idle engine that is offered a pool job with no matching spare completes it before it looks for other
work, and the event ends as it would have ended after that completion (R60). -/
theorem finish_noSpare (s0 : State) {s : State} {j : Job} (idle : s.engine.work = .idle)
    (queue : s.engine.queue = [j]) (pool : j.step = none) (none : s.pool.pick j = none) :
    State.finish s0 s = State.finish s0 (s.completeJob j (.noSpare 0) s.pool.clearCount) := by
  have dropped : (s.completeJob j (.noSpare 0) s.pool.clearCount).engine.queue = []
      ∧ (s.completeJob j (.noSpare 0) s.pool.clearCount).engine.work = .idle := by
    rw [idle_completeJob]
    exact ⟨by rw [State.dropHead, State.setEngine_engine, queue]; rfl, rfl⟩
  have chosen : s.engineKick = (s.completeJob j (.noSpare 0) s.pool.clearCount).engineKick := by
    rw [engineKick_no_job dropped.2 dropped.1]
    simp only [State.engineKick, if_pos idle, queue, List.length_singleton, State.nextWork, pool, none,
      dropped.1]
  rw [State.finish, chosen]
  rfl

/-- An event that writes record `h` as `l` and offers pool job `j` for it, which no spare matches. -/
theorem offered_noSpare {s : State} (idle : s.engine.work = .idle) (empty : s.engine.queue = []) {h : Nat}
    {l m : Link} {j : Job} {n : Notice} (handle : j.handle = h) (valid : j.void = false) (pool : j.step = none)
    (none : s.pool.pick j = none)
    (d : ((s.setLink h l).offer j).dropHead.delivers j (.noSpare 0) m n) :
    let t := State.finish s ((s.setLink h l).offer j)
    s.linkBecomes t h m ∧ s.otherLinks t h ∧ t.engine.queue = [] ∧ t.port = s.port.queue n := by
  intro t
  have queue : ((s.setLink h l).offer j).engine.queue = [j] := by
    show s.engine.queue ++ [j] = [j]
    rw [empty]
    rfl
  have calm : calmRest [] := fun _ head => by cases head
  have completes : t = State.finish s (((s.setLink h l).offer j).completeJob j (.noSpare 0)
      ((s.setLink h l).offer j).pool.clearCount) := finish_noSpare s idle queue pool none
  have completed := completed_finish queue calm valid s (.noSpare 0)
    ((s.setLink h l).offer j).pool.clearCount
  obtain ⟨becomes, port⟩ := delivered_unjudged queue calm valid s rfl d
  rw [← completes] at completed becomes port
  subst handle
  refine ⟨becomes, fun g other => (completed.other g other).trans ?_, completed.queue, port⟩
  exact congrArg Link.lasting (s.link_setLink_other l other)

theorem jobStep_none : jobStep 16777215 = none := by decide

theorem ownAdmit_accepted {s : State} {a : AdmitArgs} {h : Nat} (ok : admitArgsOk a = true)
    (fresh : ∀ g, g < 160 → (s.link g).state = .free ∨ (s.link g).label ≠ a.label)
    (lowest : s.lowestFree = some h) (room : s.engine.full = false) :
    ownAdmit a s
      = State.done s ((s.setLink h (Link.checking a)).offer (admitJob h a)) .queued (.handle h) := by
  have unlabelled := (s.labelled_eq_none_iff a.label).mpr fresh
  simp [ownAdmit, ok, unlabelled, lowest, room]

theorem ownRetune_accepted {s : State} {h f force : Nat} (lt : h ≤ 159)
    (state : (s.link h).state = .active ∨ (s.link h).state = .referred) (ok : stepOrPoolOk f = true)
    (room : s.engine.full = false) :
    ownRetune ⟨h, f, force⟩ s = State.done s (s.askRetune h (s.link h) (retuneKind (jobStep f)) (jobStep f)
      (isOn force)) .queued .empty := by
  have occupied : (s.link h).state ≠ .free := by rcases state with e | e <;> simp [e]
  have taken : ¬ ((s.link h).state ≠ .active ∧ (s.link h).state ≠ .referred) := by
    rcases state with e | e <;> simp [e]
  have handle := (handleOk_iff h).mpr lt
  simp [ownRetune, State.withLink, handle, ok, occupied, room]
  exact fun active referred => absurd ⟨active, referred⟩ taken

/-- A RETUNE with no step that no spare matches leaves its link as it found it, but ACTIVE, not forced and with
nothing pending (R71). -/
theorem delivers_retunePool {s : State} {h : Nat} {forced : Bool} (lt : h < 160) :
    (s.askRetune h (s.link h) .retunePool none forced).dropHead.delivers
      ((s.link h).jobOf .retunePool h none forced) (.noSpare 0)
      { s.link h with state := .active, target := none, job := none, forced := false, timer := none }
      (.checkResult .retunePool h forced (.noSpare 0) .active) := by
  have own : (s.askRetune h (s.link h) .retunePool none forced).dropHead.link
      ((s.link h).jobOf .retunePool h none forced).handle = (s.link h).toRecheck .retunePool none forced :=
    s.link_setLink_same _ lt
  have returned := delivers_returned (s := (s.askRetune h (s.link h) .retunePool none forced).dropHead)
    (j := (s.link h).jobOf .retunePool h none forced) lt (by rw [own]; rfl)
    (by rw [own]; exact fun e => by cases e) (v := .noSpare 0) rfl (by rw [own]; exact fun e => by cases e)
  rw [own] at returned
  exact returned

/-- Settles O24: the event that offers the job ends as if the job had completed with NO_SPARE in it. -/
theorem poolJobWithoutSpare : Obligations.PoolJobWithoutSpare := by
  intro h s accepts le idle empty
  have lt : h < 160 := Nat.lt_succ_of_le le
  have room : s.engine.full = false := by simp [Engine.full, empty]
  refine ⟨fun a ok step fresh free lower none => ?_, fun force state none => ?_⟩
  · have lowest : s.lowestFree = some h := (s.findLink_eq_some_iff _ h).mpr
      ⟨lt, by simp [free], fun g below => by simpa using lower g below⟩
    have job : admitJob h a = ⟨.admissionPool, h, Option.none, a.cls, a.zones, false, false⟩ := by
      rw [admitJob, step, jobStep_none]
      rfl
    have checking : (((s.setLink h (Link.checking a)).offer
        ⟨.admissionPool, h, Option.none, a.cls, a.zones, false, false⟩).dropHead.link h).state = .checking :=
      congrArg Link.state (s.link_setLink_same (Link.checking a) lt)
    obtain ⟨becomes, other, queue, port⟩ := offered_noSpare (l := Link.checking a) idle empty rfl rfl rfl none
      (delivers_freed lt checking rfl)
    have answered := take_accepts accepts 12 false a ownAdmit
    rw [ownAdmit_accepted ok fresh lowest room, job] at answered
    exact ⟨_, congrArg Host.Outcome.next answered, becomes.1, other, queue, rfl,
      (congrArg Port.notices port :)⟩
  · obtain ⟨becomes, other, queue, port⟩ := offered_noSpare idle empty rfl rfl rfl none
      (delivers_retunePool (s := s) (forced := force != 0) lt)
    have answered := take_accepts accepts 13 false (⟨h, 16777215, force⟩ : RetuneArgs) ownRetune
    rw [ownRetune_accepted le state (by decide) room, jobStep_none] at answered
    exact ⟨_, congrArg Host.Outcome.next answered, becomes, other, queue, rfl,
      (congrArg Port.notices port :)⟩

end Sys2Proof.Machine
end

section
/-! One key among the talk lists, followed through the ends of R146, refills and changes of standing; and the keys
of a pack that is lost (R143, R146 to R148). -/

namespace Sys2Proof.Machine

open Sys2Proof

/-! ### One key among the lists -/

/-- Key `k` is `x`, and stands in no list but the one its state names, there once at most. -/
structure Talk.Placed (t : Talk) (k : Nat) (x : Key) : Prop where
  key : t.key k = some x
  waiting : ∀ id d, t.dest id = some d →
    d.waiting.count k ≤ if x.state = .waiting ∧ id = x.dest then 1 else 0
  talking : ∀ id d, t.dest id = some d →
    d.talking.count k ≤ if x.state = .talking ∧ id = x.dest then 1 else 0

theorem count_le_of_nodup {l : List Nat} {k : Nat} {p : Prop} [Decidable p] (nodup : l.Nodup)
    (h : k ∈ l → p) : l.count k ≤ if p then 1 else 0 := by
  split
  · exact List.nodup_iff_count_le_one.mp nodup k
  · rename_i out
    exact (List.count_eq_zero.mpr fun m => out (h m)).le

theorem Talk.sound.placed {t : Talk} (s : t.sound) {k : Nat} {x : Key} (h : t.key k = some x) :
    t.Placed k x := by
  refine ⟨h, fun id d dest => ?_, fun id d dest => ?_⟩
  all_goals obtain ⟨talkers, waiters, -, talking, waiting⟩ := s.1 id d dest
  · refine count_le_of_nodup waiters fun m => ?_
    obtain ⟨y, own, place, state⟩ := waiting k m
    cases h.symm.trans own
    exact ⟨state, place.symm⟩
  · refine count_le_of_nodup talkers fun m => ?_
    obtain ⟨y, own, place, state⟩ := talking k m
    cases h.symm.trans own
    exact ⟨state, place.symm⟩

/-- A change at destination `id` alone that leaves key `k` as it is and takes up no place for it. -/
theorem Talk.Placed.onDest {t u : Talk} {k id : Nat} {x : Key} (p : t.Placed k x)
    (key : u.key k = t.key k) (others : ∀ i, i ≠ id → u.dest i = t.dest i) {d e : Dest}
    (old : t.dest id = some d) (new : u.dest id = some e) (waiting : e.waiting.count k ≤ d.waiting.count k)
    (talking : e.talking.count k ≤ d.talking.count k) : u.Placed k x := by
  refine ⟨key.trans p.key, fun i f h => ?_, fun i f h => ?_⟩
  all_goals by_cases own : i = id
  · subst own
    cases new.symm.trans h
    exact waiting.trans (p.waiting _ _ old)
  · exact p.waiting i f ((others i own).symm.trans h)
  · subst own
    cases new.symm.trans h
    exact talking.trans (p.talking _ _ old)
  · exact p.talking i f ((others i own).symm.trans h)

theorem Talk.Placed.not_waiting {t : Talk} {k : Nat} {x : Key} (p : t.Placed k x) (state : x.state ≠ .waiting)
    {id : Nat} {d : Dest} (h : t.dest id = some d) : k ∉ d.waiting := by
  have := p.waiting id d h
  rw [if_neg fun c => state c.1] at this
  exact List.count_eq_zero.mp (Nat.le_zero.mp this)

theorem Talk.Placed.not_talking {t : Talk} {k : Nat} {x : Key} (p : t.Placed k x) (state : x.state ≠ .talking)
    {id : Nat} {d : Dest} (h : t.dest id = some d) : k ∉ d.talking := by
  have := p.talking id d h
  rw [if_neg fun c => state c.1] at this
  exact List.count_eq_zero.mp (Nat.le_zero.mp this)

/-! ### Ends and refills at other keys (R143, R146) -/

/-- A refill leaves a key that does not wait. -/
theorem Talk.Placed.refill {t : Talk} {k : Nat} {x : Key} (p : t.Placed k x) (state : x.state ≠ .waiting)
    (now id : Nat) : (t.refill now id).Placed k x := by
  cases h : t.dest id with
  | none =>
    rw [Talk.refill, h]
    exact p
  | some d =>
    obtain ⟨others, keys, granted, waiting, dest, fewer, taken⟩ := t.refill_spec h now
    have out := p.not_waiting state h
    refine p.onDest (keys k out) others h dest ?_ ?_
    · exact (List.count_eq_zero.mpr fun m => out (fewer k m)).le.trans (Nat.zero_le _)
    · rw [List.count_append, List.count_eq_zero.mpr fun m => out (taken k m)]
      exact Nat.le_refl _

/-- Another key becomes IDLE, and `f` takes up no place for `k` at one destination. -/
theorem Talk.Placed.idle_onDest {t : Talk} {k j id : Nat} {x : Key} (p : t.Placed k x) (other : k ≠ j)
    {f : Dest → Dest} (waiting : ∀ d, (f d).waiting.count k ≤ d.waiting.count k)
    (talking : ∀ d, (f d).talking.count k ≤ d.talking.count k) :
    ((t.idleKey j).onDest id f).Placed k x := by
  have key : ((t.idleKey j).onDest id f).key k = t.key k := by
    rw [Talk.key_onDest, Talk.idleKey, Talk.key_onKey_other _ _ other]
  have dest : ∀ i, (t.idleKey j).dest i = t.dest i := fun i => t.dest_onKey j _ i
  have others : ∀ i, i ≠ id → ((t.idleKey j).onDest id f).dest i = t.dest i := fun i h => by
    rw [Talk.dest_onDest_other _ _ h, dest]
  have same : ((t.idleKey j).onDest id f).dest id = (t.dest id).map f := by rw [Talk.dest_onDest_same, dest]
  cases h : t.dest id with
  | none =>
    rw [h] at same
    refine ⟨key.trans p.key, fun i e he => ?_, fun i e he => ?_⟩
    all_goals have out : i ≠ id := fun c => by rw [c, same] at he; cases he
    · exact p.waiting i e ((others i out).symm.trans he)
    · exact p.talking i e ((others i out).symm.trans he)
  | some d =>
    rw [h] at same
    exact p.onDest key others h same (waiting d) (talking d)

theorem Talk.Placed.endWait {t : Talk} {k j : Nat} {x : Key} (p : t.Placed k x) (other : k ≠ j) (id : Nat) :
    (t.endWait id j).Placed k x :=
  p.idle_onDest other (fun _ => List.erase_sublist.count_le _) fun _ => Nat.le_refl _

/-- What the end of a talk writes at its destination before the refill (R146). -/
def Dest.talkEnds (d : Dest) (level k : Nat) : Dest :=
  let d' := { d with talking := d.talking.erase k, requests := d.requests.erase k }
  if d.rotation then d'.toRingEnd level k else d'

theorem Dest.talkEnds_lists (d : Dest) (level k : Nat) :
    (d.talkEnds level k).talking = d.talking.erase k ∧ (d.talkEnds level k).waiting = d.waiting := by
  unfold Dest.talkEnds
  simp only
  split <;> exact ⟨rfl, rfl⟩

theorem Talk.endTalk_eq (t : Talk) (now id k : Nat) :
    t.endTalk now id k = ((t.idleKey k).onDest id fun d => d.talkEnds (t.level k) k).refill now id := rfl

theorem Talk.Placed.endTalk {t : Talk} {k j : Nat} {x : Key} (p : t.Placed k x) (other : k ≠ j)
    (state : x.state ≠ .waiting) (now id : Nat) : (t.endTalk now id j).Placed k x := by
  rw [Talk.endTalk_eq]
  refine (p.idle_onDest other (fun d => ?_) fun d => ?_).refill state now id
  · rw [(d.talkEnds_lists _ _).2]
  · rw [(d.talkEnds_lists _ _).1]
    exact List.erase_sublist.count_le _

theorem Talk.Placed.endKey {t : Talk} {k j : Nat} {x : Key} (p : t.Placed k x) (other : k ≠ j)
    (state : x.state ≠ .waiting) (now : Nat) : (t.endKey now j).Placed k x := by
  unfold Talk.endKey
  split
  · exact p
  · split
    · exact p.endTalk other state now _
    · exact p.endWait other _
    · exact p
    · exact p

/-! ### The end of the key itself (R146) -/

/-- A key after the end of its talk or wait. -/
def Key.ended (x : Key) : Key := { x with state := .idle, deadline := none }

theorem Key.ended_state (x : Key) : x.ended.state ≠ .waiting ∧ x.ended.state ≠ .talking :=
  ⟨(fun e => by cases e), fun e => by cases e⟩

/-- A key becomes IDLE, and `f` takes it out of the list of its destination. -/
theorem Talk.Placed.ends {t : Talk} {k : Nat} {x : Key} (p : t.Placed k x) {f : Dest → Dest}
    (waiting : ∀ d, t.dest x.dest = some d → k ∉ (f d).waiting)
    (talking : ∀ d, t.dest x.dest = some d → k ∉ (f d).talking) :
    ((t.idleKey k).onDest x.dest f).Placed k x.ended := by
  have dest : ∀ i, (t.idleKey k).dest i = t.dest i := fun i => t.dest_onKey k _ i
  have unlisted : ∀ i e, ((t.idleKey k).onDest x.dest f).dest i = some e → k ∉ e.waiting ∧ k ∉ e.talking := by
    intro i e he
    by_cases own : i = x.dest
    · subst own
      rw [Talk.dest_onDest_same, dest, Option.map_eq_some_iff] at he
      obtain ⟨d, hd, rfl⟩ := he
      exact ⟨waiting d hd, talking d hd⟩
    · rw [Talk.dest_onDest_other _ _ own, dest] at he
      have w := p.waiting i e he
      have v := p.talking i e he
      rw [if_neg fun c => own c.2] at w v
      exact ⟨List.count_eq_zero.mp (Nat.le_zero.mp w), List.count_eq_zero.mp (Nat.le_zero.mp v)⟩
  refine ⟨?_, fun i e he => ?_, fun i e he => ?_⟩
  · rw [Talk.key_onDest, Talk.idleKey, Talk.key_onKey_same, p.key]
    rfl
  · rw [List.count_eq_zero.mpr (unlisted i e he).1]
    exact Nat.zero_le _
  · rw [List.count_eq_zero.mpr (unlisted i e he).2]
    exact Nat.zero_le _

theorem not_mem_erase_of_count {l : List Nat} {k : Nat} (h : l.count k ≤ 1) : k ∉ l.erase k := by
  rw [← List.count_eq_zero, List.count_erase_self]
  omega

theorem Talk.Placed.endKey_waiting {t : Talk} {k : Nat} {x : Key} (p : t.Placed k x)
    (state : x.state = .waiting) (now : Nat) : (t.endKey now k).Placed k x.ended := by
  have ends : t.endKey now k = t.endWait x.dest k := by simp only [Talk.endKey, p.key, state]
  rw [ends]
  have quiet : x.state ≠ .talking := by simp [state]
  refine p.ends (fun d hd => ?_) fun d hd => p.not_talking (d := d) quiet hd
  have := p.waiting _ d hd
  rw [if_pos ⟨state, rfl⟩] at this
  exact not_mem_erase_of_count this

theorem Talk.Placed.endKey_talking {t : Talk} {k : Nat} {x : Key} (p : t.Placed k x)
    (state : x.state = .talking) (now : Nat) : (t.endKey now k).Placed k x.ended := by
  have ends : t.endKey now k = t.endTalk now x.dest k := by simp only [Talk.endKey, p.key, state]
  rw [ends, Talk.endTalk_eq]
  refine (p.ends (fun d hd => ?_) fun d hd => ?_).refill x.ended_state.1 now _
  · rw [(d.talkEnds_lists _ _).2]
    exact p.not_waiting (by simp [state]) hd
  · rw [(d.talkEnds_lists _ _).1]
    have := p.talking _ d hd
    rw [if_pos ⟨state, rfl⟩] at this
    exact not_mem_erase_of_count this

/-! ### The keys of a pack (R148) -/

theorem Talk.mem_keysWith {t : Talk} {p : Key → Bool} {k : Nat} :
    k ∈ t.keysWith p ↔ ∃ x, t.key k = some x ∧ p x = true := by
  simp only [Talk.keysWith, Tab.entries_eq _ none, List.mem_map, List.mem_filter, List.mem_range]
  constructor
  · rintro ⟨_, ⟨⟨i, lt, rfl⟩, sat⟩, rfl⟩
    simp only at sat
    split at sat
    · exact ⟨_, ‹_›, sat⟩
    · cases sat
  · rintro ⟨x, own, sat⟩
    have own' : t.keys.get k none = some x := own
    exact ⟨_, ⟨⟨k, Talk.key_lt own, rfl⟩, by simp [own', sat]⟩, rfl⟩

theorem Talk.keysWith_nodup (t : Talk) (p : Key → Bool) : (t.keysWith p).Nodup := by
  have numbers : t.keys.entries.map (·.2) = List.range 96 := by
    rw [Tab.entries_eq _ none, List.map_map]
    exact List.map_id' _
  exact (numbers ▸ List.nodup_range : (t.keys.entries.map (·.2)).Nodup).sublist
    (List.filter_sublist.map _)

/-- The waits end one after another: each key that waited is IDLE, and every other key as it was. -/
theorem Talk.Placed.endWaits (now : Nat) {ws : List Nat} {t : Talk} (nodup : ws.Nodup)
    (wait : ∀ j, j ∈ ws → ∃ y, t.key j = some y ∧ y.state = .waiting) {k : Nat} {x : Key} (p : t.Placed k x) :
    (ws.foldl (fun t k => t.endKey now k) t).Placed k (if k ∈ ws then x.ended else x) := by
  induction ws generalizing t x with
  | nil => exact p
  | cons j ws ih =>
    obtain ⟨fresh, distinct⟩ := List.nodup_cons.mp nodup
    obtain ⟨y, own, state⟩ := wait j List.mem_cons_self
    have ends : t.endKey now j = t.endWait y.dest j := by simp only [Talk.endKey, own, state]
    have others : ∀ i, i ≠ j → (t.endKey now j).key i = t.key i := fun i other => by
      rw [ends, Talk.endWait, Talk.key_onDest, Talk.idleKey, Talk.key_onKey_other _ _ other]
    have waits : ∀ i, i ∈ ws → ∃ y, (t.endKey now j).key i = some y ∧ y.state = .waiting := fun i m => by
      rw [others i fun e => fresh (e ▸ m)]
      exact wait i (List.mem_cons_of_mem _ m)
    by_cases same : k = j
    · subst same
      cases p.key.symm.trans own
      have done := ih distinct waits (p.endKey_waiting state now)
      rw [if_neg fresh] at done
      rw [if_pos List.mem_cons_self]
      exact done
    · have done := ih distinct waits (ends ▸ p.endWait same y.dest)
      simp only [List.mem_cons, same, false_or]
      exact done

/-- The talks end one after another: each key of them that talked is IDLE, and a key that neither waits nor is
one of them as it was. -/
theorem Talk.Placed.endTalks (now : Nat) {ks : List Nat} {t : Talk} (nodup : ks.Nodup) {k : Nat} {x : Key}
    (talks : k ∈ ks → x.state = .talking) (state : x.state ≠ .waiting) (p : t.Placed k x) :
    (ks.foldl (fun t k => t.endKey now k) t).Placed k (if k ∈ ks then x.ended else x) := by
  induction ks generalizing t x with
  | nil => exact p
  | cons j ks ih =>
    obtain ⟨fresh, distinct⟩ := List.nodup_cons.mp nodup
    by_cases same : k = j
    · subst same
      have done := ih (x := x.ended) distinct (fun m => absurd m fresh) x.ended_state.1
        (p.endKey_talking (talks List.mem_cons_self) now)
      rw [if_neg fresh] at done
      rw [if_pos List.mem_cons_self]
      exact done
    · have done := ih distinct (fun m => talks (List.mem_cons_of_mem _ m)) state (p.endKey same state now)
      simp only [List.mem_cons, same, false_or]
      exact done

/-- A key of the pack after its pack is lost: IDLE where it waited or talked, else as it was. -/
def Key.silenced (x : Key) : Key := if x.state = .waiting ∨ x.state = .talking then x.ended else x

theorem Key.silenced_state (x : Key) : x.silenced.state ≠ .waiting ∧ x.silenced.state ≠ .talking := by
  unfold Key.silenced
  split
  · exact x.ended_state
  · rename_i quiet
    exact not_or.mp quiet

theorem Talk.Placed.endPacks {t : Talk} {k : Nat} {x : Key} (p : t.Placed k x) (now : Nat) {lost : Nat → Bool}
    (pack : x.ofPack lost = true) : (t.endPacks now lost).Placed k x.silenced := by
  have waits : ∀ j, j ∈ t.keysWith (fun x => x.state == .waiting && x.ofPack lost) →
      ∃ y, t.key j = some y ∧ y.state = .waiting := fun j m => by
    obtain ⟨y, own, sat⟩ := Talk.mem_keysWith.mp m
    exact ⟨y, own, by simp_all⟩
  have member : ∀ st, k ∈ t.keysWith (fun x => x.state == st && x.ofPack lost) ↔ x.state = st := fun st => by
    rw [Talk.mem_keysWith]
    simp [p.key, pack]
  have first := p.endWaits now (t.keysWith_nodup _) waits
  have talks := sortBy_perm (Config.packKeyRank now)
    (t.keysWith fun x => x.state == .talking && x.ofPack lost)
  have distinct := talks.nodup_iff.mpr (t.keysWith_nodup _)
  have inTalks := fun j => talks.mem_iff (a := j)
  simp only [member] at first
  unfold Talk.endPacks
  by_cases wait : x.state = .waiting
  · rw [if_pos wait] at first
    have out : k ∉ sortBy (Config.packKeyRank now)
        (t.keysWith fun x => x.state == .talking && x.ofPack lost) := by
      rw [inTalks, member, wait]
      decide
    have second := first.endTalks now distinct (fun m => absurd m out) x.ended_state.1
    rw [if_neg out] at second
    rw [Key.silenced, if_pos (.inl wait)]
    exact second
  · rw [if_neg wait] at first
    have second := first.endTalks now distinct (fun m => (member _).mp ((inTalks k).mp m)) wait
    simp only [inTalks, member] at second
    simp only [Key.silenced, wait, false_or]
    exact second

/-! ### Changes of standing (R147) -/

theorem Talk.Placed.wait {t : Talk} {k j : Nat} {x : Key} (p : t.Placed k x) (other : k ≠ j) (id : Nat) :
    (t.wait id j).Placed k x := by
  cases h : t.dest id with
  | none =>
    rw [Talk.wait, h]
    exact p
  | some d =>
    obtain ⟨-, dest, within⟩ := t.wait_spec h j
    refine p.onDest (within.key k other) within.dest h dest ?_ (List.erase_sublist.count_le _)
    rw [(insertBy_perm _ _ _).count_eq, List.count_cons_of_ne (Ne.symm other)]
    exact List.erase_sublist.count_le _

theorem Talk.Placed.waits {t : Talk} {k id : Nat} {x : Key} (p : t.Placed k x) {ks : List Nat} (out : k ∉ ks) :
    (ks.foldl (fun t k => t.wait id k) t).Placed k x := by
  induction ks generalizing t with
  | nil => exact p
  | cons j ks ih =>
    obtain ⟨other, out⟩ := not_or.mp (List.mem_cons.not.mp out)
    exact ih (p.wait other id) out

/-- A key that neither waits nor talks outlasts every change of standing. -/
theorem Talk.Placed.restand {t : Talk} {k : Nat} {x : Key} (p : t.Placed k x)
    (quiet : x.state ≠ .waiting ∧ x.state ≠ .talking) (now id : Nat) (routed restricted : Bool) :
    (t.restand now id routed restricted).Placed k x := by
  unfold Talk.restand
  split
  · exact p
  · rename_i d h
    split
    · exact p
    · have stood : (t.setDest id (some { d with routed := routed, restricted := restricted })).Placed k x :=
        p.onDest rfl (fun i other => Talk.dest_setDest_other _ _ other) h
          (Talk.dest_setDest_same _ _ (Talk.dest_lt h)) (Nat.le_refl _) (Nat.le_refl _)
      refine (stood.waits fun m => ?_).refill quiet.1 now id
      exact stood.not_talking quiet.2 (Talk.dest_setDest_same _ _ (Talk.dest_lt h)) (List.mem_filter.mp m).1

theorem State.restandIn_placed (s : State) {t : Talk} {k : Nat} {x : Key} (p : t.Placed k x)
    (quiet : x.state ≠ .waiting ∧ x.state ≠ .talking) (id : Nat) : (s.restandIn t id).Placed k x := by
  unfold State.restandIn
  split
  · exact p
  · exact p.restand quiet _ _ _ _

theorem placed_restandAll {s : State} {k : Nat} {x : Key} (p : s.talk.Placed k x)
    (quiet : x.state ≠ .waiting ∧ x.state ≠ .talking) : s.restandAll.talk.Placed k x := by
  rw [State.restandAll_eq, State.setTalk_talk]
  generalize List.range 32 = ids
  generalize s.talk = t at p
  induction ids generalizing t with
  | nil => exact p
  | cons id ids ih => exact ih _ (s.restandIn_placed p quiet id)

end Sys2Proof.Machine
end

section
/-! RETIRE by state (O26): R62, R63, R83, R84, R96, R148, R165. -/

namespace Sys2Proof.Machine

open Sys2Proof

/-! ### The Radio Port at the end of an event -/

theorem finish_radio (s0 s : State) : (State.finish s0 s).radio = s.engineKick.radioKick.radio := by
  obtain ⟨m, e, -⟩ := matrixKick_eq (State.oweRoutes s0 s.engineKick.radioKick)
  rw [State.finish, e]
  rfl

theorem radioKick_held {s : State} (held : s.radioHeld) : s.radioKick = s := by
  unfold State.radioKick
  rcases held with h | h
  · have busy : s.radio.sending ≠ none := Option.isSome_iff_ne_none.mp h
    simp [busy]
  · simp [h]

/-- A PLAN owed begins or stays owed (R170, R171). -/
theorem radioKick_plan {s : State} (owed : s.radio.planOwed = true) :
    s.radioKick.radio.planOwed = true ∨ s.radioKick.radio.sending = some (.plan s.plans.number s.plans.active) := by
  unfold State.radioKick
  split
  · exact .inr rfl
  · exact .inl owed

theorem finish_held (s0 : State) {s : State} (q : s.quiet) (held : s.radioHeld) :
    (State.finish s0 s).radio = s.radio := by
  have kicked := (sameButSweep_engineKick q).radio
  rw [finish_radio, radioKick_held (by rwa [State.radioHeld, kicked]), kicked]

theorem finish_planOwed (s0 : State) {s : State} (q : s.quiet) (owed : s.radio.planOwed = true) :
    (State.finish s0 s).radio.planOwed = true
      ∨ (State.finish s0 s).radio.sending = some (.plan s.plans.number (State.finish s0 s).plans.active) := by
  have kicked := sameButSweep_engineKick q
  have plan := radioKick_plan (s := s.engineKick) (by rwa [kicked.radio])
  rw [finish_radio, (sameButEnd_finish s0 q).plans]
  rwa [kicked.plans] at plan

/-! ### A link that leaves the plans (R148, R165) -/

/-- What the departure of a link from the plan-eligible states leaves as it was. -/
structure BesidePlans (s t : State) : Prop where
  links : t.links = s.links
  engine : t.engine = s.engine
  pool : t.pool = s.pool
  port : t.port = s.port
  mtx : t.mtx = s.mtx
  cts : t.radio.cts = s.radio.cts
  received : t.radio.received = s.radio.received
  sending : t.radio.sending = s.radio.sending
  outside : SameOutside s t

theorem besidePlans_trim (s : State) (h : Nat) : BesidePlans s (s.trim h) := by
  unfold State.trim
  split <;> exact ⟨rfl, rfl, rfl, rfl, rfl, rfl, rfl, rfl, ⟨rfl, rfl, rfl, rfl, rfl⟩⟩

theorem BesidePlans.setTalk {s t : State} (b : BesidePlans s t) (x : Talk) : BesidePlans s (t.setTalk x) :=
  ⟨b.links, b.engine, b.pool, b.port, b.mtx, b.cts, b.received, b.sending,
    b.outside.trans ⟨rfl, rfl, rfl, rfl, rfl⟩⟩

theorem leavePlans_eligible {s : State} {was : LinkState} (h : Nat) (eligible : was.planEligible = true) :
    s.leavePlans h was = ((s.trim h).setTalk ((s.trim h).talk.endPacks (s.trim h).now (· == h))).restandAll := by
  rw [State.leavePlans, if_pos eligible]

theorem leavePlans_not {s : State} {was : LinkState} (h : Nat) (eligible : was.planEligible = false) :
    s.leavePlans h was = s := by
  rw [State.leavePlans, if_neg (by simp [eligible])]

theorem besidePlans_leavePlans (s : State) (h : Nat) (was : LinkState) : BesidePlans s (s.leavePlans h was) := by
  cases eligible : was.planEligible with
  | true =>
    rw [leavePlans_eligible h eligible, State.restandAll_eq]
    exact ((besidePlans_trim s h).setTalk _).setTalk _
  | false =>
    rw [leavePlans_not h eligible]
    exact ⟨rfl, rfl, rfl, rfl, rfl, rfl, rfl, rfl, .refl s⟩

theorem BesidePlans.held {s t : State} (b : BesidePlans s t) (held : s.radioHeld) : t.radioHeld := by
  rwa [State.radioHeld, b.sending, b.cts]

theorem Plan.without_of_no_pack {p : Plan} {h : Nat} (none : p.hasPack h = false) : p.without h = p := by
  rw [Plan.hasPack, List.any_eq_false] at none
  rw [Plan.without, List.filter_eq_self.mpr fun e m => by simpa using none e m]

theorem Plan.hasPack_iff (p : Plan) (h : Nat) : p.hasPack h = true ↔ ∃ e, e ∈ p.packs ∧ e.handle = h := by
  simp [Plan.hasPack]

/-- Both plans lose the link's pack entry, and plan owed is set where there was one. -/
theorem trim_plans (s : State) (h : Nat) :
    (s.trim h).plans = { s.plans with
        pending := s.plans.pending.without h, active := s.plans.active.without h }
      ∧ (s.trim h).talk = s.talk
      ∧ (s.trim h).radio.planOwed
        = (s.radio.planOwed || (s.plans.pending.hasPack h || s.plans.active.hasPack h)) := by
  unfold State.trim
  split
  · rename_i held
    exact ⟨rfl, rfl, by simp [held, State.owePlan]⟩
  · rename_i none
    have none : s.plans.pending.hasPack h = false ∧ s.plans.active.hasPack h = false := by simpa using none
    refine ⟨?_, rfl, by simp [none]⟩
    rw [Plan.without_of_no_pack none.1, Plan.without_of_no_pack none.2]

theorem restandAll_plans (s : State) : s.restandAll.plans = s.plans ∧ s.restandAll.radio = s.radio := by
  rw [State.restandAll_eq, State.setTalk_plans, State.setTalk_radio]
  exact ⟨rfl, rfl⟩

/-- Link `h` has left the state `was` in which `s` had it, in an event that has come to `u`: the plans and the
keys follow, and other work of the event is beside them. -/
structure Departed (s u : State) (h : Nat) (was : LinkState) : Prop where
  leaves : ∃ b : State, b.plans = s.plans ∧ b.talk = s.talk ∧ b.radio = s.radio
    ∧ u.plans = (b.leavePlans h was).plans ∧ u.talk = (b.leavePlans h was).talk
    ∧ u.radio = (b.leavePlans h was).radio

theorem Departed.held {s u : State} {h : Nat} {was : LinkState} (d : Departed s u h was) (r : s.radioHeld) :
    u.radioHeld := by
  obtain ⟨b, -, -, radio, -, -, radio'⟩ := d.leaves
  rw [State.radioHeld, radio']
  exact (besidePlans_leavePlans b h was).held (by rwa [State.radioHeld, radio])

theorem Departed.none {s u : State} {h : Nat} {was : LinkState} (d : Departed s u h was)
    (eligible : was.planEligible = false) : u.plans = s.plans ∧ u.talk = s.talk := by
  obtain ⟨b, plans, talk, -, plans', talk', -⟩ := d.leaves
  rw [leavePlans_not h eligible] at plans' talk'
  exact ⟨plans'.trans plans, talk'.trans talk⟩

/-- What a departure from the plan-eligible states makes of the plans and of plan owed. -/
theorem Departed.plans {s u : State} {h : Nat} {was : LinkState} (d : Departed s u h was)
    (eligible : was.planEligible = true) :
    u.plans = { s.plans with pending := s.plans.pending.without h, active := s.plans.active.without h }
      ∧ u.radio.planOwed
        = (s.radio.planOwed || (s.plans.pending.hasPack h || s.plans.active.hasPack h)) := by
  obtain ⟨b, plans, -, radio, plans', -, radio'⟩ := d.leaves
  obtain ⟨trimmed, -, owed⟩ := trim_plans b h
  rw [plans', radio', leavePlans_eligible h eligible, (restandAll_plans _).1, (restandAll_plans _).2,
    State.setTalk_plans, State.setTalk_radio, trimmed, owed, plans, radio]
  exact ⟨rfl, rfl⟩

/-- The plans and the Radio Port at the end of the event (R165). -/
theorem Departed.trimmed {s u : State} {h : Nat} {was : LinkState} (d : Departed s u h was)
    (eligible : was.planEligible = true) (s0 : State) (q : u.quiet) : s.trimmed (State.finish s0 u) h := by
  obtain ⟨plans, owes⟩ := d.plans eligible
  have ends := (sameButEnd_finish s0 q).plans.trans plans
  have held := fun r : s.radioHeld => congrArg Radio.planOwed (finish_held s0 q (d.held r))
  refine ⟨by rw [ends]; rfl, by rw [ends]; rfl, by rw [ends], by rw [ends], fun ⟨e, named, own⟩ => ?_,
    fun none r => ?_⟩
  · have owed : u.radio.planOwed = true := by
      have packed : s.plans.active.hasPack h = true ∨ s.plans.pending.hasPack h = true :=
        named.imp (fun m => (Plan.hasPack_iff _ h).mpr ⟨e, m, own⟩)
          fun m => (Plan.hasPack_iff _ h).mpr ⟨e, m, own⟩
      rw [owes]
      rcases packed with a | a <;> simp [a]
    have sent := finish_planOwed s0 q owed
    rw [plans] at sent
    exact ⟨sent, fun r => (held r).trans owed⟩
  · have active : s.plans.active.hasPack h = false := by
      rw [← Bool.not_eq_true, Plan.hasPack_iff]
      exact fun ⟨e, m, own⟩ => none e (.inl m) own
    have pending : s.plans.pending.hasPack h = false := by
      rw [← Bool.not_eq_true, Plan.hasPack_iff]
      exact fun ⟨e, m, own⟩ => none e (.inr m) own
    rw [held r, owes, active, pending]
    simp

/-- The keys of the pack at the end of the event (R148). -/
theorem Departed.silenced {s u : State} {h : Nat} {was : LinkState} (d : Departed s u h was)
    (eligible : was.planEligible = true) (s0 : State) (q : u.quiet) (sound : s.talk.sound) :
    s.packSilenced (State.finish s0 u) h := by
  obtain ⟨b, -, talk, -, -, talk', -⟩ := d.leaves
  intro k x button own origin
  have pack : x.ofPack (· == h) = true := by simp [Key.ofPack, origin]
  have placed := (sound.placed own).endPacks (b.trim h).now pack
  have before : (b.trim h).talk = s.talk := (trim_plans b h).2.1.trans talk
  have stood := placed_restandAll (s := (b.trim h).setTalk ((b.trim h).talk.endPacks (b.trim h).now (· == h)))
    (by rw [State.setTalk_talk, before]; exact placed) x.silenced_state
  rw [(sameButEnd_finish s0 q).talk, talk', leavePlans_eligible h eligible, stood.key, Key.silenced]
  refine ⟨fun busy => by rw [if_pos busy]; rfl, fun rests => ?_⟩
  rw [if_neg]
  rcases rests with e | e <;> simp [e]

/-! ### The job of a retired link (R62, R63) -/

theorem jobVoided_of_queue {s t : State} {h : Nat} (e : t.engine.queue = (s.voidJob h).engine.queue) :
    s.jobVoided t h := by
  have queue : t.engine.queue = voidIn s.engine.work.onJob h s.engine.queue := e
  refine ⟨fun occ trial failures j rest work jobs => ?_, fun none => ?_⟩
  · rw [work, jobs] at queue
    rw [queue, show Work.onJob (.job occ trial failures) = true from rfl, voidIn_running]
    refine ⟨fun own valid => if_pos ⟨own, valid⟩, fun other => if_neg fun c => ?_⟩
    rcases other with apart | void
    · exact apart c.1
    · simp [void] at c
  · have waiting : s.engine.work.onJob = false := by
      cases work : s.engine.work with
      | job occ trial failures => exact absurd work (none occ trial failures)
      | idle => rfl
      | sweep => rfl
    rw [queue, waiting, voidIn_waiting]

theorem voidJob_settled {s : State} {h : Nat} (settled : s.engineSettled) : (s.voidJob h).engineSettled := by
  intro idle
  obtain ⟨queue, sweep⟩ := settled idle
  refine ⟨?_, sweep⟩
  show voidIn s.engine.work.onJob h s.engine.queue = []
  rw [queue, voidIn_nil]

theorem engineSettled_congr {s t : State} (engine : t.engine = s.engine) (pool : t.pool = s.pool)
    (settled : s.engineSettled) : t.engineSettled := by
  unfold State.engineSettled at *
  rwa [engine, pool]

/-- An engine that is settled chooses nothing. -/
theorem engineKick_settled {s : State} (settled : s.engineSettled) : s.engineKick = s := by
  by_cases idle : s.engine.work = .idle
  · obtain ⟨queue, sweep⟩ := settled idle
    rw [engineKick_no_job idle queue, State.lookForSweep, if_neg (by simp [sweep])]
  · exact engineKick_working idle

end Sys2Proof.Machine
end

section
/-! RETIRE by state (O26). -/

namespace Sys2Proof.Machine

open Sys2Proof

/-! ### What RETIRE decides (R83) -/

theorem ownRetire_occupied {s : State} {h : Nat} (le : h ≤ 159) (occupied : (s.link h).state ≠ .free)
    (force : Nat) : ownRetire ⟨h, force⟩ s = retireBy h (isOn force) s (s.link h) :=
  withLink_exists ((handleOk_iff h).mpr le) occupied _

theorem ownRetire_busy {s : State} {h force : Nat} (le : h ≤ 159)
    (busy : (s.link h).state = .releasing
      ∨ force = 0 ∧ ((s.link h).state = .settling ∨ (s.link h).state = .reverting)) :
    ownRetire ⟨h, force⟩ s = s.refuse .busy := by
  rcases busy with e | ⟨rfl, e | e⟩
  all_goals rw [ownRetire_occupied le (by simp [e]), retireBy, e]
  all_goals rfl

theorem ownRetire_onAir {s : State} {h : Nat} (le : h ≤ 159)
    (held : (s.link h).state = .retuneWait
      ∨ s.onAir h = true ∧ ((s.link h).state = .active ∨ (s.link h).state = .recheck
        ∨ (s.link h).state = .referred)) :
    ownRetire ⟨h, 0⟩ s = s.refuse .onAir := by
  rcases held with e | ⟨on, e | e | e⟩
  all_goals rw [ownRetire_occupied le (by simp [e]), retireBy, e]
  · rfl
  all_goals simp [on, isOn]

theorem ownRetire_checking {s : State} {h : Nat} (le : h ≤ 159) (e : (s.link h).state = .checking)
    (force : Nat) : ownRetire ⟨h, force⟩ s = State.done s (s.retireChecking h) .ok .empty := by
  rw [ownRetire_occupied le (by simp [e]), retireBy, e]

/-- RETIRE is accepted at a link that may enter RELEASING: it is LOST, or FORCE is given, or it is off air in
one of the states that hold still (R83). -/
def State.mayRelease (s : State) (h force : Nat) : Prop :=
  (s.link h).state = .lost
    ∨ force ≠ 0 ∧ ((s.link h).state = .settling ∨ (s.link h).state = .reverting
      ∨ (s.link h).state = .retuneWait)
    ∨ (force ≠ 0 ∨ s.onAir h = false) ∧ ((s.link h).state = .active ∨ (s.link h).state = .recheck
      ∨ (s.link h).state = .referred)

theorem onAir_passes {s : State} {h force : Nat} (off : force ≠ 0 ∨ s.onAir h = false) :
    (s.onAir h && !isOn force) = false := by
  rcases off with e | e <;> simp [isOn, e]

section

variable {s : State} {h force : Nat} (le : h ≤ 159) (may : s.mayRelease h force)

include le may

theorem ownRetire_recheck (e : (s.link h).state = .recheck) :
    ownRetire ⟨h, force⟩ s = State.done s (s.retireRecheck h (s.link h)) .ok .empty := by
  have off : force ≠ 0 ∨ s.onAir h = false := by simpa [State.mayRelease, e] using may
  rw [ownRetire_occupied le (by simp [e]), retireBy, e]
  simp [onAir_passes off]

theorem ownRetire_waiting (e : (s.link h).state = .retuneWait) :
    ownRetire ⟨h, force⟩ s = State.done s (s.retireWaiting h (s.link h)) .ok .empty := by
  have forced : force ≠ 0 := by simpa [State.mayRelease, e] using may
  rw [ownRetire_occupied le (by simp [e]), retireBy, e]
  simp [isOn, forced]

theorem ownRetire_releases (recheck : (s.link h).state ≠ .recheck) (waiting : (s.link h).state ≠ .retuneWait) :
    ownRetire ⟨h, force⟩ s = State.done s (s.enterReleasing h (s.link h)) .ok .empty := by
  rcases may with e | ⟨forced, e | e | e⟩ | ⟨off, e | e | e⟩
  case inr.inl.inr.inr => exact absurd e waiting
  case inr.inr.inr.inl => exact absurd e recheck
  all_goals rw [ownRetire_occupied le (by simp [e]), retireBy, e]
  · simp [isOn, forced]
  · simp [isOn, forced]
  · simp [onAir_passes off]
  · simp [onAir_passes off]

end

/-! ### What the entry to RELEASING leaves (R84) -/

/-- Link `h` has become `m` in an event that has come to `u`. -/
structure Retired (s u : State) (h : Nat) (m : Link) : Prop where
  own : u.link h = m
  other : ∀ g, g ≠ h → u.link g = s.link g
  port : u.port = s.port
  outside : SameOutside s u
  departed : Departed s u h (s.link h).state

/-- The entry to RELEASING, with an engine that may have had a job voided. -/
theorem retired_enterReleasing {s : State} {h : Nat} (lt : h < 160) {l : Link}
    (state : l.state = (s.link h).state) (e : Engine) :
    Retired s ((s.setEngine e).enterReleasing h l) h l.releasing
      ∧ ((s.setEngine e).enterReleasing h l).engine = e
      ∧ ((s.setEngine e).enterReleasing h l).pool = s.pool := by
  have left := besidePlans_leavePlans ((s.setEngine e).setLink h l.releasing) h l.state
  have link : ∀ g, ((s.setEngine e).enterReleasing h l).link g = (s.setLink h l.releasing).link g := fun g => by
    rw [State.link, State.enterReleasing, left.links]
    rfl
  refine ⟨⟨(link h).trans (s.link_setLink_same _ lt), fun g apart => (link g).trans (s.link_setLink_other _ apart),
    left.port, ?_, ?_⟩, left.engine, left.pool⟩
  · obtain ⟨tally, lines, pins, now, pending⟩ := left.outside
    exact ⟨tally, lines, pins, now, pending⟩
  · exact state ▸ ⟨(s.setEngine e).setLink h l.releasing, rfl, rfl, rfl, rfl, rfl, rfl⟩

theorem Retired.wantSweep {s u : State} {h : Nat} {m : Link} (r : Retired s u h m) :
    Retired s u.wantSweep h m :=
  ⟨r.own, r.other, r.port, r.outside.trans ⟨rfl, rfl, rfl, rfl, rfl⟩, ⟨r.departed.leaves⟩⟩

/-- The answer to an accepted RETIRE, at the end of its event. -/
theorem Retired.answered {s u : State} {h : Nat} {m : Link} (r : Retired s u h m) (q : u.quiet) :
    let t := (State.finish s u).respond 17 .ok .empty
    s.linkBecomes t h m ∧ s.otherLinks t h ∧ s.answeredOnly t 17 .ok .empty ∧ s.sameOutside t
      ∧ ((s.link h).state.planEligible = true → s.trimmed t h ∧ (s.talk.sound → s.packSilenced t h))
      ∧ ((s.link h).state.planEligible = false → t.plans = s.plans ∧ t.talk = s.talk) := by
  intro t
  have ends := sameButEnd_finish s q
  refine ⟨⟨(ends.lasting h).trans (by rw [r.own]), fun held => ?_⟩,
    fun g apart => (ends.lasting g).trans (by rw [r.other g apart]),
    answeredOnly_respond (ends.port.trans r.port) _ _ _, (r.outside.trans ends.outside).same,
    fun eligible => ⟨r.departed.trimmed eligible s q, r.departed.silenced eligible s q⟩, fun eligible => ?_⟩
  · show (State.finish s u).link h = m
    rw [State.link, links_finish s q (r.departed.held held), ← r.own]
    rfl
  · obtain ⟨plans, talk⟩ := r.departed.none eligible
    exact ⟨ends.plans.trans plans, ends.talk.trans talk⟩

/-- A settled engine is left as it is by the end of the event. -/
theorem finish_settled (s0 : State) {u : State} (settled : u.engineSettled) :
    (State.finish s0 u).engine = u.engine ∧ (State.finish s0 u).pool = u.pool := by
  rw [finish_engine, finish_pool, engineKick_settled settled]
  exact ⟨rfl, rfl⟩

theorem exec_retire {s u : State} {h force : Nat} (accepts : s.accepts)
    (own : ownRetire ⟨h, force⟩ s = State.done s u .ok .empty) :
    exec (.retire (.args ⟨h, force⟩)) s = .next ((State.finish s u).respond 17 .ok .empty) := by
  refine congrArg Host.Outcome.next ((take_accepts accepts 17 false (⟨h, force⟩ : FlagArgs) ownRetire).trans ?_)
  rw [own]
  rfl

/-- RETIRE of a CHECKING link: its job is voided and the link FREE, sweep-wanted set. -/
theorem retire_checking {s : State} {h force : Nat} (accepts : s.accepts) (le : h ≤ 159)
    (settled : s.engineSettled) (checking : (s.link h).state = .checking) :
    ∃ t, exec (.retire (.args ⟨h, force⟩)) s = .next t ∧ (t.link h).lasting = Link.free.lasting
      ∧ s.otherLinks t h ∧ s.answeredOnly t 17 .ok .empty ∧ s.sameVenue t ∧ s.sameOutside t
      ∧ s.jobVoided t h ∧ s.sweepAsked s.pool t := by
  have lt : h < 160 := Nat.lt_succ_of_le le
  have idle := voidJob_settled (h := h) settled
  have quiet : (s.retireChecking h).quiet := fun w j head => by
    have queue : (s.retireChecking h).engine.queue = [] := (idle w).1
    simp [queue] at head
  have beside := besideLink_enterFree (s.voidJob h) h
  have ends := sameButEnd_finish s quiet
  have free : (s.retireChecking h).link h = Link.free := s.link_setLink_same Link.free lt
  have asked : (s.voidJob h).sweepAsked s.pool (State.finish s (s.retireChecking h)) :=
    sweepAsked_finish (s := s.voidJob h) (u := s.retireChecking h) rfl rfl rfl s
  refine ⟨_, exec_retire accepts (ownRetire_checking le checking force), (ends.lasting h).trans (by rw [free]),
    fun g apart => (ends.lasting g).trans (congrArg Link.lasting (s.link_setLink_other Link.free apart)),
    answeredOnly_respond ends.port _ _ _, ends.venue, ends.outside.same, jobVoided_of_queue ends.queue,
    asked.1, fun w empty => asked.2 w ?_⟩
  exact (idle w).1

/-- Settles O26: its refusals, then the record RETIRE writes, the job it voids, the departure from the plans and
the sweep it asks for, state by state. -/
theorem retireByState : Obligations.RetireByState := by
  intro h force s accepts le
  have lt : h < 160 := Nat.lt_succ_of_le le
  refine ⟨fun free => ?_, fun busy => ?_, fun unforced held => ?_,
    fun settled checking => retire_checking accepts le settled checking, fun settled may => ?_⟩
  · exact congrArg Host.Outcome.next (take_refuse accepts (withLink_free le free _) 17)
  · exact congrArg Host.Outcome.next (take_refuse accepts (ownRetire_busy le busy) 17)
  · subst unforced
    exact congrArg Host.Outcome.next (take_refuse accepts (ownRetire_onAir le held) 17)
  · by_cases recheck : (s.link h).state = .recheck
    · obtain ⟨retired, engine, pool⟩ := retired_enterReleasing lt
        (l := { s.link h with target := none, job := none }) rfl (s.voidJob h).engine
      have settled' := engineSettled_congr engine pool (voidJob_settled (h := h) settled)
      obtain ⟨engine', pool'⟩ := finish_settled s settled'
      obtain ⟨becomes, other, answered, outside, plans, noPlans⟩ := retired.answered (quiet_of_settled settled')
      refine ⟨_, exec_retire accepts (ownRetire_recheck le may recheck), ?_, other, answered, outside,
        fun _ => jobVoided_of_queue (congrArg Engine.queue (engine'.trans engine) :), fun n => absurd recheck n,
        (fun e => by rw [recheck] at e; cases e),
        fun _ => ⟨pool'.trans pool, (congrArg Engine.work (engine'.trans engine) :)⟩, plans, noPlans⟩
      rw [if_pos (.inl recheck)]
      exact becomes
    · by_cases waiting : (s.link h).state = .retuneWait
      · obtain ⟨retired, engine, pool⟩ := retired_enterReleasing lt
          (l := { s.link h with target := none }) rfl s.engine
        have quiet : (s.retireWaiting h (s.link h)).quiet := fun idle j head => by
          have engine' : (s.retireWaiting h (s.link h)).engine = s.engine := engine
          rw [engine'] at idle head
          simp [(settled idle).1] at head
        obtain ⟨becomes, other, answered, outside, plans, noPlans⟩ := retired.wantSweep.answered quiet
        refine ⟨_, exec_retire accepts (ownRetire_waiting le may waiting), ?_, other, answered, outside,
          fun e => absurd e recheck,
          fun _ => (sameButEnd_finish s quiet).queue.trans (congrArg Engine.queue engine),
          fun _ => sweepAsked_finish (u := s.retireWaiting h (s.link h)) (congrArg Pool.wantSweep pool)
            (congrArg Engine.work engine) (congrArg Engine.queue engine) s, fun n => absurd waiting n, plans, noPlans⟩
        rw [if_pos (.inr waiting)]
        exact becomes
      · obtain ⟨retired, engine, pool⟩ := retired_enterReleasing lt (l := s.link h) rfl s.engine
        have settled' := engineSettled_congr engine pool settled
        obtain ⟨engine', pool'⟩ := finish_settled s settled'
        obtain ⟨becomes, other, answered, outside, plans, noPlans⟩ := retired.answered (quiet_of_settled settled')
        refine ⟨_, exec_retire accepts (ownRetire_releases le may recheck waiting), ?_, other, answered, outside,
          fun e => absurd e recheck, fun _ => congrArg Engine.queue (engine'.trans engine),
          fun e => absurd e waiting, fun _ => ⟨pool'.trans pool, congrArg Engine.work (engine'.trans engine)⟩,
          plans, noPlans⟩
        rw [if_neg (not_or.mpr ⟨recheck, waiting⟩)]
        exact becomes

end Sys2Proof.Machine
end

section
/-! The end of an event that has written one record, and the answer to a request that caused it (R42, R181). -/

namespace Sys2Proof.Machine

open Sys2Proof

/-- An event that began in `s` has come to `u` and written record `h` as `m`, no other record, and nothing that
lets a message begin on RTX. -/
structure WritesLink (s u : State) (h : Nat) (m : Link) : Prop where
  own : u.link h = m
  other : ∀ g, g ≠ h → u.link g = s.link g
  held : s.radioHeld → u.radioHeld

theorem writesLink_setLink (s : State) {h : Nat} (lt : h < 160) (m : Link) : WritesLink s (s.setLink h m) h m :=
  ⟨s.link_setLink_same m lt, fun _ apart => s.link_setLink_other m apart, id⟩

/-- Work on other blocks leaves the records as they were written. -/
theorem WritesLink.beside {s u v : State} {h : Nat} {m : Link} (w : WritesLink s u h m) (links : v.links = u.links)
    (radio : v.radio = u.radio) : WritesLink s v h m := by
  have link : ∀ g, v.link g = u.link g := fun g => by rw [State.link, links, State.link]
  refine ⟨(link h).trans w.own, fun g apart => (link g).trans (w.other g apart), fun r => ?_⟩
  have held := w.held r
  rwa [State.radioHeld, radio]

theorem BesideLink.writesLink {s u : State} {h : Nat} {m : Link} (b : BesideLink s u h) (own : u.link h = m) :
    WritesLink s u h m :=
  ⟨own, b.links, fun r => by rwa [State.radioHeld, b.radio]⟩

/-- The records at the end of the event. -/
theorem WritesLink.ends {s u : State} {h : Nat} {m : Link} (w : WritesLink s u h m) (q : u.quiet) (s0 : State) :
    s.linkBecomes (State.finish s0 u) h m ∧ s.otherLinks (State.finish s0 u) h := by
  have ends := sameButEnd_finish s0 q
  refine ⟨⟨(ends.lasting h).trans (by rw [w.own]), fun r => ?_⟩,
    fun g apart => (ends.lasting g).trans (by rw [w.other g apart])⟩
  rw [State.link, links_finish s0 q (w.held r)]
  exact w.own

/-- Work at one link makes the engine complete nothing more at once. -/
theorem BesideLink.quiet {s u : State} {h : Nat} (b : BesideLink s u h) (q : s.quiet) : u.quiet :=
  quiet_of_slots (by rw [b.engine]) (by rw [b.engine]) b.slots q

/-- The end of an event whose work was at one link. -/
theorem BesideLink.ends {s u : State} {h : Nat} {m : Link} (b : BesideLink s u h) (own : u.link h = m) (q : s.quiet)
    (s0 : State) :
    let t := State.finish s0 u
    s.linkBecomes t h m ∧ s.otherLinks t h ∧ t.engine.queue = s.engine.queue ∧ s.sameVenue t ∧ s.sameOutside t
      ∧ t.port = u.port ∧ t.talk = u.talk := by
  intro t
  have quiet := b.quiet q
  have ends := sameButEnd_finish s0 quiet
  obtain ⟨becomes, other⟩ := (b.writesLink own).ends quiet s0
  have venue : s.sameVenue u := ⟨by rw [b.engine], by rw [b.engine], b.plans, by rw [b.radio], by rw [b.radio],
    by rw [b.mtx]⟩
  exact ⟨becomes, other, ends.queue.trans (by rw [b.engine]), venue.trans ends.venue,
    (b.outside.trans ends.outside).same, ends.port, ends.talk⟩

/-- A request that its owner accepts, its effects ending as an event does. -/
theorem take_done {α : Type} {s u : State} (accepts : s.accepts) {own : α → State → Answer} {a : α} {st : Status}
    {body : RespBody} (done : own a s = State.done s u st body) (code : Nat) :
    s.take code false (.args a) own = (State.finish s u).respond code st body := by
  rw [take_accepts accepts, done]
  rfl

end Sys2Proof.Machine
end

section
/-! The requests that offer a job to the engine: ADMIT, RETUNE, ANSWER REFERRAL and MOVE ZONES (O22, O23): R39,
R65, R69, R72, R107. -/

namespace Sys2Proof.Machine

open Sys2Proof

/-! ### A job offered (R40, R42) -/

/-- A job that waits, or starts at an idle engine, completes nothing in the event that offers it. -/
theorem quiet_offer {s : State} {j : Job} (starts : s.startsOrWaits j) (h : Nat) (m : Link) :
    ((s.setLink h m).offer j).quiet := by
  intro idle k head
  rcases starts with working | ⟨empty, starts⟩
  · exact absurd idle working
  · have queue : ((s.setLink h m).offer j).engine.queue = [j] := by
      show s.engine.queue ++ [j] = [j]
      rw [empty, List.nil_append]
    rw [queue] at head
    cases head
    exact starts

theorem finish_offer_queue {s : State} {j : Job} (starts : s.startsOrWaits j) (h : Nat) (m : Link) :
    (State.finish s ((s.setLink h m).offer j)).engine.queue = s.engine.queue ++ [j] :=
  (sameButEnd_finish s (quiet_offer starts h m)).queue

/-- A request has written record `h` as `m` and offered job `j`; it is answered QUEUED and nothing else has
changed. -/
theorem offered_answered {s : State} {h : Nat} (lt : h < 160) {j : Job} (starts : s.startsOrWaits j) (m : Link)
    (code : Nat) (body : RespBody) :
    let t := (State.finish s ((s.setLink h m).offer j)).respond code .queued body
    s.linkBecomes t h m ∧ t.engine.queue = s.engine.queue ++ [j] ∧ s.otherLinks t h
      ∧ s.answeredOnly t code .queued body ∧ t.talk = s.talk ∧ s.sameVenue t ∧ s.sameOutside t := by
  intro t
  have quiet := quiet_offer starts h m
  have ends := sameButEnd_finish s quiet
  have written : WritesLink s ((s.setLink h m).offer j) h m := (writesLink_setLink s lt m).beside rfl rfl
  obtain ⟨becomes, other⟩ := written.ends quiet s
  exact ⟨becomes, finish_offer_queue starts h m, other, answeredOnly_respond ends.port _ _ _, ends.talk, ends.venue,
    ends.outside.same⟩

theorem not_full {s : State} (room : s.engine.queue.length < 12) : s.engine.full = false := by
  simpa [Engine.full] using room

theorem stepOrPoolOk_iff (f : Nat) : stepOrPoolOk f = true ↔ f ≤ 108000 ∨ f = 16777215 := by
  simp [stepOrPoolOk, stepOk, poolMarker]

theorem zonesOk_of {z : ZoneSet} (zones : z ≠ 0) : zonesOk z = true := by
  unfold zonesOk
  exact bne_iff_ne.mpr zones

/-! ### ADMIT (R65) -/

theorem admitArgsOk_of {a : AdmitArgs} {kind : LinkKind} {policy : Policy} (hk : linkKindOf a.kind = some kind)
    (cls : a.cls ≤ 7) (zones : a.zones ≠ 0) (label : labelOk a.label = true) (hp : policyOf a.policy = some policy)
    (step : a.step ≤ 108000 ∨ a.step = 16777215) : admitArgsOk a = true := by
  simp [admitArgsOk, hk, hp, label, classOk, cls, zonesOk_of zones, (stepOrPoolOk_iff _).mpr step]

theorem admit_accepted {s : State} {a : AdmitArgs} {h : Nat} (accepts : s.accepts) (ok : admitArgsOk a = true)
    (fresh : ∀ g, g < 160 → (s.link g).state = .free ∨ (s.link g).label ≠ a.label) (lt : h < 160)
    (free : (s.link h).state = .free) (lower : ∀ g, g < h → (s.link g).state ≠ .free)
    (room : s.engine.queue.length < 12) :
    exec (.admitLink (.args a)) s
      = .next ((State.finish s ((s.setLink h (Link.checking a)).offer (admitJob h a))).respond 12 .queued
          (.handle h)) := by
  have lowest : s.lowestFree = some h := (s.findLink_eq_some_iff _ h).mpr
    ⟨lt, by simp [free], fun g below => by simpa using lower g below⟩
  exact congrArg Host.Outcome.next (take_done accepts (ownAdmit_accepted ok fresh lowest (not_full room)) 12)

theorem admitJob_eq (h : Nat) (a : AdmitArgs) :
    admitJob h a = ⟨if a.step = 16777215 then .admissionPool else .admission, h,
      if a.step = 16777215 then none else some a.step, a.cls, a.zones, false, false⟩ := by
  unfold admitJob jobStep poolMarker
  split <;> rfl

theorem Link.checking_eq {a : AdmitArgs} {kind : LinkKind} {policy : Policy} (hk : linkKindOf a.kind = some kind)
    (hp : policyOf a.policy = some policy) (h : Nat) :
    Link.checking a = { Link.free with
      state := .checking, kind := some kind, cls := some a.cls, zones := a.zones, label := a.label,
      policy := some policy, job := some (admitJob h a).kind } := by
  simp only [Link.checking, admitJob, hk, hp]

/-- Settles O22: the scan for the lowest FREE record decides the handle, and the job waits or starts. -/
theorem admitTakesLowestFree : Obligations.AdmitTakesLowestFree := by
  intro a h kind policy s accepts hk cls zones label hp step fresh lt free lower room
  have ok := admitArgsOk_of hk cls zones label hp step
  have run := admit_accepted accepts ok fresh lt free lower room
  refine ⟨⟨_, run, rfl⟩, fun j job starts => ?_⟩
  have offered : admitJob h a = j := (admitJob_eq h a).trans job.symm
  rw [Link.checking_eq hk hp h, offered] at run
  obtain ⟨becomes, queue, other, answered, talk, venue, outside⟩ := offered_answered lt starts _ 12 (.handle h)
  exact ⟨_, run, becomes, queue, other, answered, talk, venue, outside⟩

/-! ### RETUNE, ANSWER REFERRAL and MOVE ZONES (R69, R72, R107) -/

theorem ownAnswerReferral_accepted {s : State} {h f : Nat} (le : h ≤ 159) (referred : (s.link h).state = .referred)
    (step : f ≤ 108000) (room : s.engine.full = false) :
    ownAnswerReferral ⟨h, f⟩ s
      = State.done s (s.askRetune h (s.link h) .retune (some f) false) .queued .empty := by
  simp [ownAnswerReferral, State.withReferral, (handleOk_iff h).mpr le, stepOk, step, referred, room]

theorem ownMoveZones_accepted {s : State} {h : Nat} {z : ZoneSet} (le : h ≤ 159)
    (active : (s.link h).state = .active) (zones : z ≠ 0) (room : s.engine.full = false) :
    ownMoveZones ⟨h, z⟩ s
      = State.done s ((s.setLink h { s.link h with state := .recheck, job := some .move }).offer
          ((s.link h).moveJob h z)) .queued .empty := by
  simp [ownMoveZones, State.withLink, (handleOk_iff h).mpr le, zonesOk_of zones, active, room]

theorem retuneJob_eq (l : Link) (h f force : Nat) :
    l.jobOf (retuneKind (jobStep f)) h (jobStep f) (isOn force)
      = ⟨if f = 16777215 then .retunePool else .retune, h, if f = 16777215 then none else some f,
          l.cls.getD 0, l.zones, force != 0, false⟩ := by
  unfold Link.jobOf retuneKind jobStep poolMarker isOn
  split <;> rfl

/-- Settles O23: each owner writes the record and offers its job, which waits or starts. -/
theorem retuneFamilyOffersJobs : Obligations.RetuneFamilyOffersJobs := by
  intro h s accepts le room
  have lt : h < 160 := Nat.lt_succ_of_le le
  have room := not_full room
  refine ⟨fun f force j state step job starts => ?_, fun f j referred step job starts => ?_,
    fun z j active zones job starts => ?_⟩
  · have offered := (retuneJob_eq (s.link h) h f force).trans job.symm
    subst offered
    exact ⟨_, congrArg Host.Outcome.next
      (take_done accepts (ownRetune_accepted le state ((stepOrPoolOk_iff f).mpr step) room) 13),
      offered_answered lt starts _ 13 .empty⟩
  · subst job
    have record : (s.link h).toRecheck .retune (some f) false
        = { s.link h with state := .recheck, job := some .retune, target := some f, timer := none } := by
      rw [Link.toRecheck, Bool.or_false]
    obtain ⟨becomes, answered⟩ := offered_answered lt starts ((s.link h).toRecheck .retune (some f) false) 23 .empty
    exact ⟨_, congrArg Host.Outcome.next
      (take_done accepts (ownAnswerReferral_accepted le referred step room) 23), record ▸ becomes, answered⟩
  · subst job
    exact ⟨_, congrArg Host.Outcome.next
      (take_done accepts (ownMoveZones_accepted le active zones room) 14), offered_answered lt starts _ 14 .empty⟩

end Sys2Proof.Machine
end

section
/-! CANCEL RETUNE and TUNE NOW (O25): R75, R76, R96. -/

namespace Sys2Proof.Machine

open Sys2Proof

section

variable {s : State} {h : Nat} (le : h ≤ 159) (k : Link → Answer)

include le

theorem whileWaiting_takes (waiting : (s.link h).state = .retuneWait) : s.whileWaiting h k = k (s.link h) := by
  simp [State.whileWaiting, State.withLink, (handleOk_iff h).mpr le, waiting]

theorem whileWaiting_tooLate (late : (s.link h).state = .settling ∨ (s.link h).state = .reverting) :
    s.whileWaiting h k = s.refuse .tooLate := by
  rcases late with e | e <;> simp [State.whileWaiting, State.withLink, (handleOk_iff h).mpr le, e]

theorem whileWaiting_busy (occupied : (s.link h).state ≠ .free) (settling : (s.link h).state ≠ .settling)
    (reverting : (s.link h).state ≠ .reverting) (waiting : (s.link h).state ≠ .retuneWait) :
    s.whileWaiting h k = s.refuse .busy := by
  simp [State.whileWaiting, State.withLink, (handleOk_iff h).mpr le, occupied, settling, reverting, waiting]

end

/-- A record written, and a sweep asked for (R96). -/
theorem besideLink_setLink_wantSweep (s : State) (h : Nat) (m : Link) : BesideLink s (s.setLink h m).wantSweep h :=
  (besideLink_setLink s h m).trans ⟨fun _ _ => rfl, rfl, rfl, rfl, rfl, rfl, rfl, rfl, ⟨rfl, rfl, rfl, rfl, rfl⟩⟩

theorem sweepAsked_setLink_wantSweep (s s0 : State) (h : Nat) (m : Link) :
    s.sweepAsked s.pool (State.finish s0 (s.setLink h m).wantSweep) :=
  sweepAsked_finish (u := (s.setLink h m).wantSweep) rfl rfl rfl s0

/-- Settles O25: by the state of the link; CANCEL RETUNE ends as an event that has asked for a sweep. -/
theorem cancelAndTuneNow : Obligations.CancelAndTuneNow := by
  intro h s accepts le
  have lt : h < 160 := Nat.lt_succ_of_le le
  refine ⟨fun waiting q => ⟨?_, ?_⟩, fun late => ⟨?_, ?_⟩,
    fun occupied settling reverting waiting => ⟨?_, ?_⟩⟩
  · obtain ⟨becomes, other, queue, venue, outside, port, talk⟩ := (besideLink_setLink_wantSweep s h _).ends
      (s.link_setLink_same { s.link h with state := .active, target := none, forced := false } lt) q s
    exact ⟨_, congrArg Host.Outcome.next (take_done accepts (whileWaiting_takes le _ waiting) 15), becomes,
      sweepAsked_respond (sweepAsked_setLink_wantSweep s s h _) _ _ _, queue, other,
      answeredOnly_respond port _ _ _, talk, venue, outside⟩
  · obtain ⟨becomes, other, queue, venue, outside, port, talk⟩ := (besideLink_setLink s h _).ends
      (s.link_setLink_same { s.link h with
        state := .settling, forced := true, order := (s.link h).target.map .tune, timer := none } lt) q s
    exact ⟨_, congrArg Host.Outcome.next (take_done accepts (whileWaiting_takes le _ waiting) 16), becomes, queue,
      other, answeredOnly_respond port _ _ _, talk, venue, outside⟩
  · exact congrArg Host.Outcome.next (take_refuse accepts (whileWaiting_tooLate le _ late) 15)
  · exact congrArg Host.Outcome.next (take_refuse accepts (whileWaiting_tooLate le _ late) 16)
  · exact congrArg Host.Outcome.next
      (take_refuse accepts (whileWaiting_busy le _ occupied settling reverting waiting) 15)
  · exact congrArg Host.Outcome.next
      (take_refuse accepts (whileWaiting_busy le _ occupied settling reverting waiting) 16)

end Sys2Proof.Machine
end

section
/-! The expiries of a link's timer (O28): R80 to R82, R84, R85, R109, R148, R165. -/

namespace Sys2Proof.Machine

open Sys2Proof

theorem Link.held_both {l : Link} (occupied : l.state.occupied = true) (target : l.state.holdsTarget = true) :
    l.held = l.carrier.toList.map (fun f => (0, f)) ++ l.target.toList.map fun f => (1, f) := by
  simp [Link.held, Link.heldCarrier, Link.heldTarget, occupied, target]

/-- An expiry is taken while the record's timer is of its kind, and the timebase has then reached the deadline. -/
theorem expiry_taken {s : State} {h d : Nat} {kind : TimerKind} (live : s.pins.inReset = false)
    (timer : (s.link h).timer = some ⟨kind, d⟩) (k : State → Nat → Link → State) :
    s.expiry h kind k = State.finish s (k (s.reachTime d) h (s.link h)) := by
  rw [State.expiry, event_live live]
  simp [timer]

/-- An expiry at deadline `d` has left record `h` as `m` and the port as `p`, and nothing else has changed but the
timebase. -/
def State.expiredTo (s t : State) (h d : Nat) (m : Link) (p : Port) : Prop :=
  s.linkBecomes t h m ∧ s.otherLinks t h ∧ t.port = p ∧ t.talk = s.talk ∧ s.sameVenue t ∧ t.now = max s.now d
    ∧ t.tally = s.tally

section

variable {s : State} {h : Nat} (lt : h < 160) (q : s.quiet) (d : Nat) (m : Link)

include lt q

theorem expiredTo_setLink : s.expiredTo (State.finish s ((s.reachTime d).setLink h m)) h d m s.port := by
  obtain ⟨becomes, other, -, venue, ⟨tally, -, -, now, -⟩, port, talk⟩ :=
    (besideLink_setLink (s.reachTime d) h m).ends ((s.reachTime d).link_setLink_same m lt) q s
  exact ⟨becomes, other, port, talk, venue, now, tally⟩

theorem expiredTo_notify (n : Notice) :
    s.expiredTo (State.finish s (((s.reachTime d).setLink h m).notify n)) h d m (s.port.queue n) := by
  obtain ⟨becomes, other, -, venue, ⟨tally, -, -, now, -⟩, port, talk⟩ :=
    ((besideLink_setLink (s.reachTime d) h m).notify n).ends ((s.reachTime d).link_setLink_same m lt) q s
  exact ⟨becomes, other, port, talk, venue, now, tally⟩

end

/-! ### LOST (R84) -/

theorem toLost_held (l : Link) :
    l.toLost.held = l.carrier.toList.map (fun f => (0, f)) ++ l.target.toList.map fun f => (1, f) :=
  Link.held_both (l := l.toLost) rfl rfl

/-- A link lost from SETTLING or REVERTING by an expiry: it leaves the plans, and the keys of its pack are
silenced. -/
theorem expired_lost {s : State} {h : Nat} (lt : h < 160) (q : s.quiet) (d : Nat)
    (eligible : (s.link h).state.planEligible = true) :
    let t := State.finish s ((s.reachTime d).enterLost h (s.link h))
    s.linkBecomes t h (s.link h).toLost ∧ s.otherLinks t h
      ∧ t.port = s.port.queue (.linkLost h (s.link h).state (s.link h).toLost.held)
      ∧ s.trimmed t h ∧ (s.talk.sound → s.packSilenced t h) ∧ t.now = max s.now d ∧ t.tally = s.tally := by
  intro t
  have left := besidePlans_leavePlans ((s.reachTime d).setLink h (s.link h).toLost) h (s.link h).state
  have quiet : ((s.reachTime d).enterLost h (s.link h)).quiet := quiet_congr left.engine left.pool q
  have departed : Departed s ((s.reachTime d).enterLost h (s.link h)) h (s.link h).state :=
    ⟨(s.reachTime d).setLink h (s.link h).toLost, rfl, rfl, rfl, rfl, rfl, rfl⟩
  have link : ∀ g, ((s.reachTime d).enterLost h (s.link h)).link g = (s.setLink h (s.link h).toLost).link g :=
    fun g => by
      rw [State.link, State.enterLost, State.notify_links, left.links]
      rfl
  have written : WritesLink s ((s.reachTime d).enterLost h (s.link h)) h (s.link h).toLost :=
    ⟨(link h).trans (s.link_setLink_same _ lt), fun g apart => (link g).trans (s.link_setLink_other _ apart),
      departed.held⟩
  obtain ⟨becomes, other⟩ := written.ends quiet s
  have ends := sameButEnd_finish s quiet
  exact ⟨becomes, other, ends.port.trans (congrArg (Port.queue · _) left.port), departed.trimmed eligible s quiet,
    departed.silenced eligible s quiet, ends.outside.now.trans left.outside.now,
    ends.outside.tally.trans left.outside.tally⟩

/-! ### What each expiry does (R80 to R82, R85, R109) -/

theorem settleExpires_reverts {l : Link} (settling : l.state = .settling) (carrier : l.carrier.isSome = true)
    (s : State) (h : Nat) : s.settleExpires h l = s.setLink h { l with
      state := .reverting, order := l.carrier.map .tune, timer := none, tries := 0 } := by
  simp only [State.settleExpires, settling, if_pos carrier]

theorem settleExpires_resends {l : Link} (settling : l.state = .settling) (carrier : l.carrier = none)
    (first : l.tries = 0) (s : State) (h : Nat) :
    s.settleExpires h l = s.setLink h { l with order := l.target.map .tune, tries := 1, timer := none } := by
  simp [State.settleExpires, settling, carrier, first]

theorem settleExpires_lost {l : Link} (last : l.state = .reverting
      ∨ l.state = .settling ∧ l.carrier = none ∧ l.tries ≠ 0) (s : State) (h : Nat) :
    s.settleExpires h l = s.enterLost h l ∧ l.state.planEligible = true := by
  rcases last with e | ⟨e, carrier, tries⟩
  · simp [State.settleExpires, e, LinkState.planEligible]
  · simp [State.settleExpires, e, carrier, tries, LinkState.planEligible]

theorem releaseExpires_resends {l : Link} (releasing : l.state = .releasing) (first : l.tries = 0) (s : State)
    (h : Nat) : s.releaseExpires h l = s.setLink h { l with order := some .mute, tries := 1, timer := none } := by
  rw [State.releaseExpires, if_pos releasing, if_pos first]

/-- A RELEASING link is in no plan: it is lost with its notice alone. -/
theorem releaseExpires_lost {l : Link} (releasing : l.state = .releasing) (last : l.tries ≠ 0) (s : State)
    (h : Nat) :
    s.releaseExpires h l = (s.setLink h l.toLost).notify (.linkLost h .releasing l.toLost.held) := by
  rw [State.releaseExpires, if_pos releasing, if_neg last, State.enterLost, releasing, leavePlans_not h rfl]

theorem referralExpires_referred {l : Link} (referred : l.state = .referred) (s : State) (h : Nat) :
    s.referralExpires h l = (s.setLink h { l with state := .active, timer := none }).notify
      (.referralExpired h (l.carrier.getD 0) l.interference) := by
  rw [State.referralExpires, if_pos referred]

/-- Settles O28: each expiry by the state, the carrier and the tries of the record, at the end of its event. -/
theorem linkTimerExpiries : Obligations.LinkTimerExpiries := by
  intro h d s live lt q
  have taken : ∀ {kind k u}, (s.link h).timer = some ⟨kind, d⟩ → k (s.reachTime d) h (s.link h) = u →
      s.expiry h kind k = State.finish s u := fun timer does => does ▸ expiry_taken live timer _
  refine ⟨fun timer settling => ⟨fun carrier => ?_, fun carrier first => ?_⟩, fun timer last => ?_,
    fun timer releasing => ⟨fun first => ?_, fun last => ?_⟩, fun timer referred => ?_⟩
  · exact ⟨_, congrArg Host.Outcome.next (taken timer (settleExpires_reverts settling carrier _ h)),
      expiredTo_setLink lt q d _⟩
  · exact ⟨_, congrArg Host.Outcome.next (taken timer (settleExpires_resends settling carrier first _ h)),
      expiredTo_setLink lt q d _⟩
  · obtain ⟨loses, eligible⟩ := settleExpires_lost last (s.reachTime d) h
    rw [← toLost_held]
    exact ⟨_, congrArg Host.Outcome.next (taken timer loses), expired_lost lt q d eligible⟩
  · exact ⟨_, congrArg Host.Outcome.next (taken timer (releaseExpires_resends releasing first _ h)),
      expiredTo_setLink lt q d _⟩
  · rw [← toLost_held]
    exact ⟨_, congrArg Host.Outcome.next (taken timer (releaseExpires_lost releasing last _ h)),
      expiredTo_notify lt q d _ _⟩
  · exact ⟨_, congrArg Host.Outcome.next (taken timer (referralExpires_referred referred _ h)),
      expiredTo_notify lt q d _ _⟩

end Sys2Proof.Machine
end

section
/-! TUNED is matched against the target, then the carrier, or discarded (O29): R78 to R82, R86, R96. -/

namespace Sys2Proof.Machine

open Sys2Proof

theorem awaitsTuned_iff (st : LinkState) :
    st.awaitsTuned = true ↔ st = .settling ∨ st = .reverting ∨ st = .lost := by
  cases st <;> decide

/-- The record of a link that reaches ACTIVE, with the sweep that another carrier's leaving asks for (R79, R96). -/
def State.tunedLink (s : State) (h : Nat) (l : Link) (kept : Nat) : State :=
  if 1 < l.held.length then (s.setLink h (l.toActive kept)).wantSweep else s.setLink h (l.toActive kept)

theorem reachActive_eq (s : State) (h : Nat) (l : Link) (kept : Nat) :
    s.reachActive h l kept
      = if l.state.planEligible then s.tunedLink h l kept else (s.tunedLink h l kept).restandAll := rfl

section

variable (s : State) (h : Nat) (l : Link) (kept : Nat)

theorem besideLink_tunedLink : BesideLink s (s.tunedLink h l kept) h := by
  unfold State.tunedLink
  split
  · exact besideLink_setLink_wantSweep s h _
  · exact besideLink_setLink s h _

theorem tunedLink_fields : (s.tunedLink h l kept).links = s.links.set h (l.toActive kept)
    ∧ (s.tunedLink h l kept).port = s.port
    ∧ (s.tunedLink h l kept).pool = if 1 < l.held.length then s.pool.wantSweep else s.pool := by
  unfold State.tunedLink
  split <;> exact ⟨rfl, rfl, rfl⟩

theorem besideLink_reachActive : BesideLink s (s.reachActive h l kept) h := by
  rw [reachActive_eq]
  split
  · exact besideLink_tunedLink s h l kept
  · exact (besideLink_tunedLink s h l kept).restandAll

theorem reachActive_fields : (s.reachActive h l kept).links = s.links.set h (l.toActive kept)
    ∧ (s.reachActive h l kept).port = s.port
    ∧ (s.reachActive h l kept).pool = if 1 < l.held.length then s.pool.wantSweep else s.pool := by
  rw [reachActive_eq]
  split
  · exact tunedLink_fields s h l kept
  · rw [State.restandAll_eq, State.setTalk_links, State.setTalk_port, State.setTalk_pool]
    exact tunedLink_fields s h l kept

end

/-- A link that awaits a TUNED holds both its carriers. -/
theorem held_length_awaiting {l : Link} (waits : l.state.awaitsTuned = true) :
    1 < l.held.length ↔ l.carrier.isSome = true ∧ l.target.isSome = true := by
  have holds : l.state.occupied = true ∧ l.state.holdsTarget = true := by
    rcases (awaitsTuned_iff _).mp waits with e | e | e <;> simp [e, LinkState.occupied, LinkState.holdsTarget]
  rw [Link.held_both holds.1 holds.2]
  cases l.carrier <;> cases l.target <;> simp

/-- The notice of a TUNED that matched: by the target first, then by the carrier (R79, R82). -/
def Link.tunedNotice (l : Link) (h step : Nat) : Notice :=
  if l.target = some step then .retuneDone h step l.carrier.isNone else .retuneReverted h step l.target

theorem tunedAt_matched {s : State} {h f : Nat} (waits : (s.link h).state.awaitsTuned = true)
    (kept : (s.link h).target = some f ∨ (s.link h).carrier = some f) :
    s.tunedAt h f
      = State.finish s ((s.reachActive h (s.link h) f).notify ((s.link h).tunedNotice h f)) := by
  by_cases target : (s.link h).target = some f
  · simp [State.tunedAt, Link.tunedNotice, waits, target]
  · simp [State.tunedAt, Link.tunedNotice, waits, target, kept.resolve_left target]

theorem tunedAt_unmatched {s : State} {h f : Nat} (no : (s.link h).state.awaitsTuned = false
      ∨ (s.link h).target ≠ some f ∧ (s.link h).carrier ≠ some f) : s.tunedAt h f = s := by
  rcases no with unawaited | ⟨target, carrier⟩
  · simp [State.tunedAt, unawaited]
  · simp [State.tunedAt, target, carrier]

theorem exec_tuned {s : State} {h f : Nat} (live : s.live) (le : h ≤ 159) (step : f ≤ 108000)
    (occupied : (s.link h).state ≠ .free) : exec (.tuned (.fields ⟨h, f⟩)) s = .next (s.rrxDone.tunedAt h f) :=
  congrArg Host.Outcome.next (report_live live ((handleOk_iff h).mpr le) (by simpa [stepOk] using step) occupied _)

/-- What a TUNED that matches does, at the end of its event. -/
theorem tunedAt_ends {s : State} {h f : Nat} (lt : h < 160) (waits : (s.link h).state.awaitsTuned = true)
    (q : s.quiet) (kept : (s.link h).target = some f ∨ (s.link h).carrier = some f) :
    s.linkBecomes (s.tunedAt h f) h ((s.link h).toActive f)
      ∧ (s.tunedAt h f).port = s.port.queue ((s.link h).tunedNotice h f)
      ∧ ((s.link h).carrier.isSome = true → (s.link h).target.isSome = true → s.sweepAsked s.pool (s.tunedAt h f))
      ∧ ((s.link h).carrier = none ∨ (s.link h).target = none → s.engineSettled →
          (s.tunedAt h f).pool = s.pool)
      ∧ s.otherLinks (s.tunedAt h f) h ∧ (s.tunedAt h f).engine.queue = s.engine.queue
      ∧ (s.tunedAt h f).plans = s.plans ∧ s.sameOutside (s.tunedAt h f) := by
  rw [tunedAt_matched waits kept]
  obtain ⟨links, port, pool⟩ := reachActive_fields s h (s.link h) f
  have beside := (besideLink_reachActive s h (s.link h) f).notify ((s.link h).tunedNotice h f)
  rw [← State.notify_pool _ ((s.link h).tunedNotice h f)] at pool
  have own : ((s.reachActive h (s.link h) f).notify ((s.link h).tunedNotice h f)).link h
      = (s.link h).toActive f := by
    rw [State.notify_link, State.link, links]
    exact Tab.get_set_same _ _ _ lt
  obtain ⟨becomes, other, queue, ⟨-, -, plans, -⟩, outside, port', -⟩ := beside.ends own q s
  refine ⟨becomes, port'.trans (congrArg (Port.queue · _) port), fun carrier target => ?_, fun one settled => ?_,
    other, queue, plans, outside⟩
  · rw [if_pos ((held_length_awaiting waits).mpr ⟨carrier, target⟩)] at pool
    exact sweepAsked_finish pool (congrArg Engine.work beside.engine) (congrArg Engine.queue beside.engine) s
  · have single : ¬ 1 < (s.link h).held.length := fun two => by
      obtain ⟨carrier, target⟩ := (held_length_awaiting waits).mp two
      rcases one with e | e
      · simp [e] at carrier
      · simp [e] at target
    rw [if_neg single] at pool
    exact (finish_settled s (engineSettled_congr beside.engine pool settled)).2.trans pool

/-- Settles O29: a TUNED that matches makes the link ACTIVE, and asks for a sweep where the link held two
carriers; any other leaves what the receiver leaves. -/
theorem tunedIsMatched : Obligations.TunedIsMatched := by
  intro h f s live le step occupied
  have run := exec_tuned live le step occupied
  refine ⟨fun waits q kept => ?_, fun no => ?_⟩
  · obtain ⟨becomes, port, sweep, still, rest⟩ := tunedAt_ends (s := s.rrxDone) (Nat.lt_succ_of_le le)
      ((awaitsTuned_iff _).mpr waits) q kept
    refine ⟨_, run, becomes, fun target => port.trans ?_, fun target => port.trans ?_, sweep, still, rest⟩
    · exact congrArg s.port.queue (if_pos target)
    · exact congrArg s.port.queue (if_neg target)
  · rw [run]
    refine congrArg Host.Outcome.next (tunedAt_unmatched (no.imp_left fun ⟨settling, reverting, lost⟩ => ?_))
    rw [← Bool.not_eq_true, awaitsTuned_iff]
    exact not_or.mpr ⟨settling, not_or.mpr ⟨reverting, lost⟩⟩

end Sys2Proof.Machine
end

section
/-! A freed link at the Talk Arbiter: the keys of its pack are DISABLED and no destination names it (R88, R147 to
R149). -/

namespace Sys2Proof.Machine

open Sys2Proof

/-! ### No operation redefines a key -/

/-- The origin of a key; an undefined entry has none. -/
def Talk.origin (t : Talk) (k : Nat) : Option Origin := (t.key k).map Key.origin

theorem Talk.origin_onKey (t : Talk) (j : Nat) {f : Key → Key} (same : ∀ x, (f x).origin = x.origin) (k : Nat) :
    (t.onKey j f).origin k = t.origin k := by
  unfold Talk.origin
  by_cases own : k = j
  · rw [own, Talk.key_onKey_same, Option.map_map]
    exact congrArg (Option.map · _) (funext same)
  · rw [Talk.key_onKey_other _ _ own]

theorem Talk.origin_setDest (t : Talk) (id : Nat) (d : Option Dest) (k : Nat) :
    (t.setDest id d).origin k = t.origin k := rfl

theorem Talk.origin_onDest (t : Talk) (id : Nat) (f : Dest → Dest) (k : Nat) :
    (t.onDest id f).origin k = t.origin k := by
  rw [Talk.origin, Talk.key_onDest, Talk.origin]

theorem Talk.origin_grant (t : Talk) (now id j k : Nat) : (t.grant now id j).origin k = t.origin k := by
  unfold Talk.grant
  split
  · rfl
  · rw [Talk.origin_setDest, Talk.origin_onKey]
    exact fun _ => rfl

theorem Talk.origin_wait (t : Talk) (id j k : Nat) : (t.wait id j).origin k = t.origin k := by
  unfold Talk.wait
  split
  · rfl
  · rw [Talk.origin_setDest, Talk.origin_onKey]
    exact fun _ => rfl

theorem Talk.origin_refillN (now id n : Nat) (t : Talk) (k : Nat) :
    (Talk.refillN now id n t).origin k = t.origin k := by
  induction n generalizing t with
  | zero => rfl
  | succ n ih =>
    unfold Talk.refillN
    split
    · rfl
    · split
      · split
        · exact (ih _).trans (t.origin_grant now id _ k)
        · rfl
      · rfl

theorem Talk.origin_refill (t : Talk) (now id k : Nat) : (t.refill now id).origin k = t.origin k := by
  unfold Talk.refill
  split
  · rfl
  · exact Talk.origin_refillN now id _ t k

theorem Talk.origin_idle_onDest (t : Talk) (id j : Nat) (f : Dest → Dest) (k : Nat) :
    ((t.idleKey j).onDest id f).origin k = t.origin k := by
  rw [Talk.origin_onDest, Talk.idleKey, Talk.origin_onKey]
  exact fun _ => rfl

theorem Talk.origin_endKey (t : Talk) (now j k : Nat) : (t.endKey now j).origin k = t.origin k := by
  unfold Talk.endKey
  split
  · rfl
  · split
    · rw [Talk.endTalk_eq, Talk.origin_refill, Talk.origin_idle_onDest]
    · exact t.origin_idle_onDest _ j _ k
    · rfl
    · rfl

/-- An operation repeated over a list keeps the origin it keeps each time. -/
theorem origin_foldl {op : Talk → Nat → Talk} {k : Nat} (same : ∀ t i, (op t i).origin k = t.origin k)
    (is : List Nat) (t : Talk) : (is.foldl op t).origin k = t.origin k := by
  induction is generalizing t with
  | nil => rfl
  | cons i is ih => exact (ih _).trans (same t i)

theorem Talk.origin_endPacks (t : Talk) (now : Nat) (lost : Nat → Bool) (k : Nat) :
    (t.endPacks now lost).origin k = t.origin k := by
  have ends : ∀ t j, (Talk.endKey t now j).origin k = t.origin k := fun t j => t.origin_endKey now j k
  exact (origin_foldl ends _ _).trans (origin_foldl ends _ t)

theorem Talk.origin_restand (t : Talk) (now id : Nat) (routed restricted : Bool) (k : Nat) :
    (t.restand now id routed restricted).origin k = t.origin k := by
  unfold Talk.restand
  split
  · rfl
  · split
    · rfl
    · exact (Talk.origin_refill _ now id k).trans (origin_foldl (fun t j => t.origin_wait id j k) _ _)

theorem origin_restandAll (s : State) (k : Nat) : s.restandAll.talk.origin k = s.talk.origin k := by
  rw [State.restandAll_eq, State.setTalk_talk]
  refine origin_foldl (fun t id => ?_) _ _
  unfold State.restandIn
  split
  · rfl
  · exact t.origin_restand _ _ _ _ k

/-! ### The keys of a freed link's pack (R148) -/

/-- A key DISABLED with its pack. -/
def Key.off (h : Nat) (x : Key) : Key :=
  if x.ofPack (· == h) then { x with state := .disabled, deadline := none } else x

theorem Key.off_origin (h : Nat) (x : Key) : (x.off h).origin = x.origin := by
  unfold Key.off
  split <;> rfl

theorem Talk.key_disablePack (t : Talk) (now h k : Nat) :
    (t.disablePack now h).key k = ((t.endPacks now (· == h)).key k).map (Key.off h) := by
  show ((t.endPacks now (· == h)).keys.mapIdx fun _ x => x.map (Key.off h)).get k none = _
  rw [Tab.get_mapIdx _ _ _ none]
  split
  · rfl
  · rename_i out
    rw [Talk.key, Tab.get_out _ _ (Nat.le_of_not_lt out), Option.map_none]

theorem Talk.origin_disablePack (t : Talk) (now h k : Nat) : (t.disablePack now h).origin k = t.origin k := by
  rw [Talk.origin, Talk.key_disablePack, Option.map_map]
  exact (congrArg (Option.map · _) (funext (Key.off_origin h))).trans (t.origin_endPacks now (· == h) k)

/-- A key that ends its pack's work leaves every list, and is DISABLED. -/
theorem Talk.Placed.disablePack {t : Talk} {k : Nat} {x : Key} (p : t.Placed k x) (now : Nat) {h : Nat}
    (pack : x.ofPack (· == h) = true) :
    (t.disablePack now h).Placed k { x.silenced with state := .disabled, deadline := none } := by
  have ended := p.endPacks now pack
  have quiet := x.silenced_state
  have same : x.silenced.ofPack (· == h) = true := by
    unfold Key.silenced
    split <;> exact pack
  refine ⟨?_, fun id d dest => ?_, fun id d dest => ?_⟩
  · rw [Talk.key_disablePack, ended.key, Option.map_some, Key.off, if_pos same]
  · rw [List.count_eq_zero.mpr (ended.not_waiting quiet.1 (id := id) dest)]
    exact Nat.zero_le _
  · rw [List.count_eq_zero.mpr (ended.not_talking quiet.2 (id := id) dest)]
    exact Nat.zero_le _

/-! ### The destinations that named it (R149) -/

theorem Talk.dest_dropLink (t : Talk) (h id : Nat) :
    (t.dropLink h).dest id = (t.dest id).map (Dest.dropLink h) := by
  show (t.dests.mapIdx fun _ x => x.map (Dest.dropLink h)).get id none = _
  rw [Tab.get_mapIdx _ _ _ none]
  split
  · rfl
  · rename_i out
    rw [Talk.dest, Tab.get_out _ _ (Nat.le_of_not_lt out), Option.map_none]

theorem Dest.dropLink_names (h : Nat) (d : Dest) :
    (d.dropLink h).target ≠ some h ∧ (d.dropLink h).watch ≠ some h := by
  refine ⟨?_, ?_⟩
  all_goals unfold Dest.dropLink
  all_goals simp only
  all_goals split
  · exact fun e => by cases e
  · assumption
  · exact fun e => by cases e
  · assumption

theorem Talk.Placed.dropLink {t : Talk} {k : Nat} {x : Key} (p : t.Placed k x) (h : Nat) :
    (t.dropLink h).Placed k x := by
  refine ⟨p.key, fun id e dest => ?_, fun id e dest => ?_⟩
  all_goals
    rw [Talk.dest_dropLink, Option.map_eq_some_iff] at dest
    obtain ⟨d, old, rfl⟩ := dest
  · exact p.waiting id d old
  · exact p.talking id d old

/-! ### The entry to FREE (R88) -/

/-- The state in which an entry to FREE recomputes the standing of the destinations. -/
def State.freed (s : State) (h : Nat) : State :=
  (s.setLink h Link.free).wantSweep.setTalk ((s.talk.disablePack s.now h).dropLink h)

theorem enterFree_eq (s : State) (h : Nat) : s.enterFree h = (s.freed h).restandAll := rfl

section

variable (s : State) (h : Nat)

theorem enterFree_links : (s.enterFree h).links = s.links.set h Link.free := by
  rw [enterFree_eq, State.restandAll_eq, State.setTalk_links]
  rfl

theorem enterFree_pool : (s.enterFree h).pool = s.pool.wantSweep := by
  rw [enterFree_eq, State.restandAll_eq, State.setTalk_pool]
  rfl

theorem enterFree_port : (s.enterFree h).port = s.port := by
  rw [enterFree_eq, State.restandAll_eq, State.setTalk_port]
  rfl

theorem enterFree_talk :
    (s.enterFree h).talk = (List.range 32).foldl (s.freed h).restandIn (s.freed h).talk := by
  rw [enterFree_eq, State.restandAll_eq, State.setTalk_talk]

end

/-- The keys of a freed link's pack are DISABLED. -/
theorem keys_enterFree {s : State} {h : Nat} (sound : s.talk.sound) {k : Nat} {x : Key}
    (key : (s.enterFree h).talk.key k = some x) (pack : x.ofPack (· == h) = true) : x.state = .disabled := by
  have origin : (s.enterFree h).talk.origin k = s.talk.origin k :=
    (origin_restandAll (s.freed h) k).trans (s.talk.origin_disablePack s.now h k)
  rw [Talk.origin, key, Option.map_some, Talk.origin] at origin
  obtain ⟨y, own, same⟩ := Option.map_eq_some_iff.mp origin.symm
  have pack' : y.ofPack (· == h) = true := by
    unfold Key.ofPack at pack ⊢
    rwa [same]
  have off : (s.freed h).talk.Placed k { y.silenced with state := .disabled, deadline := none } :=
    ((sound.placed own).disablePack s.now pack').dropLink h
  have stood := placed_restandAll off ⟨(fun e => by cases e), fun e => by cases e⟩
  have final : some x = some { y.silenced with state := .disabled, deadline := none } := key.symm.trans stood.key
  cases final
  rfl

/-- No destination names a freed link. -/
theorem dests_enterFree {s : State} {h id : Nat} {d : Dest} (dest : (s.enterFree h).talk.dest id = some d) :
    d.target ≠ some h ∧ d.watch ≠ some h := by
  have settings := (s.freed h).restandIn_foldl_settings (s.freed h).talk (List.range 32) id
  rw [← enterFree_talk, dest, if_pos (List.mem_range.mpr (Talk.dest_lt dest)), State.freed, State.setTalk_talk,
    Talk.dest_dropLink, Option.map_map] at settings
  obtain ⟨e, -, same⟩ := Option.map_eq_some_iff.mp settings.symm
  have target : (e.dropLink h).target = d.target := (congrArg Dest.target same :)
  have watch : (e.dropLink h).watch = d.watch := (congrArg Dest.watch same :)
  rw [← target, ← watch]
  exact e.dropLink_names h

end Sys2Proof.Machine
end

section
/-! MUTED and DISCARD free a link (O27): R78, R85 to R88, R96, R148, R149. -/

namespace Sys2Proof.Machine

open Sys2Proof

/-- Link `h` has been freed in an event that began in `s` and has ended in `t`. -/
structure Freed (s t : State) (h : Nat) : Prop where
  free : (t.link h).lasting = Link.free.lasting
  other : s.otherLinks t h
  sweep : s.sweepAsked s.pool t
  keys : ∀ k x, t.talk.key k = some x → x.ofPack (· == h) = true → x.state = .disabled
  dests : ∀ id d, t.talk.dest id = some d → d.target ≠ some h ∧ d.watch ≠ some h
  queue : t.engine.queue = s.engine.queue
  plans : t.plans = s.plans
  outside : s.sameOutside t

/-- The end of an event that has freed link `h`, and then perhaps queued a notice. -/
theorem freed_finish {s u : State} {h : Nat} (lt : h < 160) (q : s.quiet) (sound : s.talk.sound)
    (beside : BesideLink s u h) (links : u.links = (s.enterFree h).links) (pool : u.pool = (s.enterFree h).pool)
    (talk : u.talk = (s.enterFree h).talk) :
    Freed s (State.finish s u) h ∧ (State.finish s u).port = u.port := by
  have own : u.link h = Link.free := by
    rw [State.link, links, enterFree_links]
    exact Tab.get_set_same _ _ _ lt
  obtain ⟨becomes, other, queue, ⟨-, -, plans, -⟩, outside, port, talk'⟩ := beside.ends own q s
  have talk := talk'.trans talk
  exact ⟨⟨becomes.1, other, sweepAsked_finish (pool.trans (enterFree_pool s h)) (congrArg Engine.work beside.engine)
      (congrArg Engine.queue beside.engine) s,
    fun k x key => keys_enterFree sound (talk ▸ key), fun id d dest => dests_enterFree (talk ▸ dest), queue, plans,
    outside⟩, port⟩

/-- A MUTED at a link that awaits it, at the end of its event. -/
theorem freed_mutedAt {s : State} {h : Nat} (lt : h < 160) (q : s.quiet) (sound : s.talk.sound)
    (state : (s.link h).state = .releasing ∨ (s.link h).state = .lost) :
    Freed s (s.mutedAt h) h ∧ (s.mutedAt h).port = s.port.queue (.released h (s.link h).label) := by
  have frees : s.mutedAt h = State.finish s ((s.enterFree h).notify (.released h (s.link h).label)) := if_pos state
  rw [frees, ← enterFree_port s h, ← State.notify_port]
  exact freed_finish lt q sound ((besideLink_enterFree s h).notify _) (State.notify_links _ _)
    (State.notify_pool _ _) (State.notify_talk _ _)

theorem mutedAt_other {s : State} {h : Nat} (releasing : (s.link h).state ≠ .releasing)
    (lost : (s.link h).state ≠ .lost) : s.mutedAt h = s := if_neg (not_or.mpr ⟨releasing, lost⟩)

theorem ownDiscard_lost {s : State} {h : Nat} (le : h ≤ 159) (lost : (s.link h).state = .lost) :
    ownDiscard h s = State.done s (s.enterFree h) .ok .empty := by
  rw [ownDiscard, withLink_exists ((handleOk_iff h).mpr le) (by simp [lost])]
  simp [lost]

/-- Settles O27: the entry to FREE at the end of its event, by a MUTED with RELEASED and by DISCARD without. -/
theorem freeingEvents : Obligations.FreeingEvents := by
  intro h s le q sound
  have lt : h < 160 := Nat.lt_succ_of_le le
  refine ⟨fun live state => ?_, fun live releasing lost => ?_, fun accepts lost => ?_⟩
  · have occupied : (s.link h).state ≠ .free := by rcases state with e | e <;> simp [e]
    have run := report_live (a := h) (handle := id) (inRange := fun _ => true) live ((handleOk_iff h).mpr le) rfl
      occupied fun h s => s.mutedAt h
    obtain ⟨freed, port⟩ := freed_mutedAt (s := s.rrxDone) lt q sound state
    exact ⟨_, congrArg Host.Outcome.next run, freed.free, freed.other, port, freed.sweep, freed.keys, freed.dests,
      freed.queue, freed.plans, freed.outside⟩
  · exact congrArg Host.Outcome.next
      (report_without_effect live.1 (mutedAt_other (s := s.rrxDone) releasing lost) _ _)
  · obtain ⟨freed, port⟩ := freed_finish lt q sound (besideLink_enterFree s h) rfl rfl rfl
    exact ⟨_, congrArg Host.Outcome.next (take_done accepts (ownDiscard_lost le lost) 18), freed.free, freed.other,
      answeredOnly_respond (port.trans (enterFree_port s h)) _ _ _, freed.sweep, freed.keys, freed.dests,
      freed.queue, freed.plans, freed.outside⟩

end Sys2Proof.Machine
end

section
/-! What work in the part does to the steps of the spares: it leaves each in its slot, or takes the spare out of
the pool (R60, R61, R91, R93, R95, R98, R100). -/

namespace Sys2Proof.Machine

open Sys2Proof

/-! ### The steps of the spares (R91) -/

/-- The step of the spare in a slot. -/
def Pool.stepAt (p : Pool) (i : Nat) : Option Nat := (p.slots.get i none).map (·.step)

theorem Pool.stepAt_eq_some_iff (p : Pool) (i f : Nat) :
    p.stepAt i = some f ↔ ∃ sp, p.slots.get i none = some sp ∧ sp.step = f :=
  Option.map_eq_some_iff

theorem Pool.distinct_iff (p : Pool) :
    p.distinct ↔ ∀ i j f, p.stepAt i = some f → p.stepAt j = some f → i = j := by
  simp only [Pool.stepAt_eq_some_iff]
  constructor
  · rintro distinct i j _ ⟨a, ha, rfl⟩ ⟨b, hb, same⟩
    by_contra apart
    exact distinct i j a b ha hb apart same.symm
  · intro once i j a b ha hb apart same
    exact apart (once i j b.step ⟨a, ha, same⟩ ⟨b, hb, rfl⟩)

/-- A spare of `q` stands in its slot in `p` too, with the same step: spares have left the pool at most. -/
def Pool.Thins (p q : Pool) : Prop := ∀ i f, q.stepAt i = some f → p.stepAt i = some f

theorem Pool.Thins.trans {p q r : Pool} (a : p.Thins q) (b : q.Thins r) : p.Thins r :=
  fun i f h => a i f (b i f h)

theorem Pool.Thins.distinct {p q : Pool} (a : p.Thins q) (h : p.distinct) : q.distinct :=
  q.distinct_iff.mpr fun i j f hi hj => p.distinct_iff.mp h i j f (a i f hi) (a j f hj)

theorem Pool.thins_of_slots {p q : Pool} (e : q.slots = p.slots) : p.Thins q := fun i f h => by
  rwa [Pool.stepAt, e] at h

theorem Pool.Thins.refl (p : Pool) : p.Thins p := Pool.thins_of_slots rfl

/-- Every spare changed, its step kept. -/
theorem Pool.thins_of_map {p q : Pool} {g : Spare → Spare} (step : ∀ sp, (g sp).step = sp.step)
    (e : ∀ i, q.slots.get i none = (p.slots.get i none).map g) : p.Thins q := fun i f h => by
  rw [Pool.stepAt, e, Option.map_map] at h
  rw [Pool.stepAt, ← h]
  exact congrArg (Option.map · _) (funext fun sp => (step sp).symm)

/-- One slot emptied, or its spare replaced by one of the same step. -/
theorem Pool.thins_setSlot {p : Pool} {slot : Nat} {x : Option Spare}
    (step : ∀ sp, x = some sp → p.stepAt slot = some sp.step) : p.Thins (p.setSlot slot x) := by
  intro i f h
  rw [Pool.stepAt, Pool.setSlot, Tab.get_set] at h
  split at h
  · rename_i own
    obtain ⟨sp, e, rfl⟩ := Option.map_eq_some_iff.mp h
    rw [own.1, step sp e]
  · exact h

theorem Pool.thins_emptied (p : Pool) (slot : Nat) : p.Thins (p.setSlot slot none) :=
  Pool.thins_setSlot fun _ e => by cases e

theorem Pool.thins_replaced {p : Pool} {slot : Nat} {sp sp' : Spare} (spare : p.slots.get slot none = some sp)
    (step : sp'.step = sp.step) : p.Thins (p.setSlot slot (some sp')) :=
  Pool.thins_setSlot fun x e => by
    cases e
    exact (p.stepAt_eq_some_iff _ _).mpr ⟨sp, spare, step.symm⟩

theorem Pool.thins_mark (p : Pool) (slot : Nat) (u : InUse) : p.Thins (p.mark slot u) := by
  unfold Pool.mark
  split
  · rename_i spare
    exact Pool.thins_replaced spare rfl
  · exact .refl p

theorem Pool.thins_spoilTouching (pool : Pool) (p : Profile) (k : Nat) : pool.Thins (pool.spoilTouching p k) :=
  Pool.thins_of_map (fun sp => by split <;> rfl) (pool.spoilTouching_get p k)

/-! ### Jobs, trials and sweep units (R44, R60, R61, R95) -/

theorem thins_lowPoolSince (n : Nat) (s : State) : s.pool.Thins (s.lowPoolSince n).pool :=
  Pool.thins_of_slots (sameButAlert_lowPoolSince n s).slots

theorem thins_recheck (s : State) : s.pool.Thins s.recheck.pool := by
  refine Pool.thins_of_map (fun sp => ?_) (slots_recheck s)
  unfold State.rejudge
  split
  · exact (Finding.apply_fields sp _).1
  · rfl

theorem thins_completeJob (s : State) (j : Job) (v : Verdict) (n : Nat) :
    s.pool.Thins (s.completeJob j v n).pool := by
  have delivered : s.pool.Thins (s.dropHead.deliver j v).pool :=
    Pool.thins_of_slots (besideLink_deliver s.dropHead j v).slots
  cases void : j.void with
  | true =>
    rw [completeJob_void void]
    exact .refl _
  | false =>
    rw [completeJob_valid void, State.judgedBy]
    refine Pool.Thins.trans ?_ (thins_lowPoolSince n _)
    split
    · exact delivered.trans (thins_recheck _)
    · exact delivered

theorem thins_checkCompletes (s : State) : s.pool.Thins s.checkCompletes.pool := by
  unfold State.checkCompletes
  split
  · split
    · exact thins_completeJob s _ _ _
    · exact .refl _
  · exact .refl _

/-- A failed trial spoils its spare, and marks another or completes the job. -/
theorem thins_trialFails {s : State} {slot : Nat} {sp : Spare} (spare : s.pool.slots.get slot none = some sp)
    (j : Job) (occ : List Party) (failures : Nat) :
    s.pool.Thins (s.trialFails j occ slot sp failures).pool := by
  have spoiled : s.pool.Thins (s.pool.setSlot slot (some { sp.spoiled with inUse := .none })) :=
    Pool.thins_replaced spare rfl
  unfold State.trialFails
  simp only
  split
  · exact spoiled.trans (thins_completeJob _ _ _ _)
  · split
    · exact spoiled.trans (thins_completeJob _ _ _ _)
    · exact (spoiled.trans (Pool.thins_mark _ _ _)).trans (thins_lowPoolSince _ _)

theorem thins_trialEnds (s : State) : s.pool.Thins s.trialEnds.pool := by
  unfold State.trialEnds
  split
  · rename_i j occ slot failures _
    split
    · exact .refl _
    · rename_i sp spare
      split
      · exact s.pool.thins_mark slot .none
      · split
        · exact (s.pool.thins_emptied slot).trans (thins_completeJob _ _ _ _)
        · exact thins_trialFails spare j occ (failures + 1)
  · exact .refl _

theorem thins_sweepCompletes (s : State) : s.pool.Thins s.sweepCompletes.pool := by
  unfold State.sweepCompletes
  split
  · simp only
    split
    · rename_i sp spare
      split
      · refine Pool.Thins.trans ?_ (thins_lowPoolSince _ _)
        exact Pool.thins_replaced spare (Finding.apply_fields sp _).1
      · exact .refl _
    · exact .refl _
  · exact .refl _

/-! ### The end of an event (R42, R43, R60) -/

theorem thins_lookForSweep (s : State) : s.pool.Thins s.lookForSweep.pool := by
  unfold State.lookForSweep
  split
  · split
    · exact s.pool.thins_mark _ .sweep
    · exact Pool.thins_of_slots rfl
  · exact .refl _

theorem thins_nextWork (n : Nat) (s : State) : s.pool.Thins (State.nextWork n s).pool := by
  induction n generalizing s with
  | zero => exact .refl _
  | succ n ih =>
    unfold State.nextWork
    split
    · exact thins_lookForSweep s
    · split
      · exact .refl _
      · split
        · exact s.pool.thins_mark _ .trial
        · exact (thins_completeJob s _ _ _).trans (ih _)

theorem thins_finish (s0 s : State) : s.pool.Thins (State.finish s0 s).pool := by
  rw [finish_pool]
  unfold State.engineKick
  split
  · exact thins_nextWork _ s
  · exact .refl _

end Sys2Proof.Machine
end

section
/-! Every step keeps the steps of the spares distinct (O56): no command but SEED SPARE puts a spare into the pool,
and SEED SPARE refuses a step that stands there (R91, R92). -/

namespace Sys2Proof.Machine

open Sys2Proof

/-! ### The relation -/

/-- Where no two spares of `s` have one step, no two of `t` have. -/
def KeepsDistinct (s t : State) : Prop := s.pool.distinct → t.pool.distinct

theorem KeepsDistinct.refl (s : State) : KeepsDistinct s s := id

theorem KeepsDistinct.trans {s t u : State} (a : KeepsDistinct s t) (b : KeepsDistinct t u) : KeepsDistinct s u :=
  fun h => b (a h)

theorem KeepsDistinct.thins {s t : State} (a : s.pool.Thins t.pool) : KeepsDistinct s t := a.distinct

theorem KeepsDistinct.slots {s t : State} (e : t.pool.slots = s.pool.slots) : KeepsDistinct s t :=
  .thins (Pool.thins_of_slots e)

theorem KeepsDistinct.finish {s t : State} (a : KeepsDistinct s t) (s0 : State) :
    KeepsDistinct s (State.finish s0 t) :=
  a.trans (.thins (thins_finish s0 t))

/-- The end of an event whose work has left the slots alone. -/
theorem KeepsDistinct.event {s t : State} (s0 : State) (e : t.pool.slots = s.pool.slots) :
    KeepsDistinct s (State.finish s0 t) :=
  (KeepsDistinct.slots e).finish s0

/-! ### How requests, events and reports are taken -/

/-- An owner that keeps the steps of the spares distinct. -/
def Sparing {α : Type} (own : α → State → Answer) : Prop := ∀ a s, KeepsDistinct s (own a s).state

theorem ReadsOnly.sparing {α : Type} {own : α → State → Answer} (r : ReadsOnly own) : Sparing own := fun a s => by
  rw [r a s]
  exact .refl s

theorem KeepsDistinct.ite {s : State} {p : Prop} [Decidable p] {a b : Answer} (ha : KeepsDistinct s a.state)
    (hb : KeepsDistinct s b.state) : KeepsDistinct s (if p then a else b).state := by
  split
  · exact ha
  · exact hb

theorem keepsDistinct_withLink {s : State} {h : Nat} {argsOk : Bool} {k : Link → Answer}
    (hk : KeepsDistinct s (k (s.link h)).state) : KeepsDistinct s (s.withLink h argsOk k).state :=
  .ite (.refl s) (.ite (.refl s) hk)

theorem keepsDistinct_whileWaiting {s : State} {h : Nat} {k : Link → Answer}
    (hk : KeepsDistinct s (k (s.link h)).state) : KeepsDistinct s (s.whileWaiting h k).state :=
  keepsDistinct_withLink (.ite (.refl s) (.ite (.refl s) hk))

theorem keepsDistinct_withReferral {s : State} {h : Nat} {argsOk : Bool} {k : Link → Answer}
    (hk : KeepsDistinct s (k (s.link h)).state) : KeepsDistinct s (s.withReferral h argsOk k).state :=
  .ite (.refl s) (.ite (.refl s) hk)

theorem keepsDistinct_stagePack (s : State) (h : Nat) (argsOk : Bool) (f : Pack → Pack) :
    KeepsDistinct s (s.stagePack h argsOk f).state :=
  .ite (.refl s) (.ite (.refl s) (.ite (.refl s) (.ite (.refl s) (.slots rfl))))

theorem keepsDistinct_transaction {s : State} {k : State → State} (h : KeepsDistinct s (k s)) :
    KeepsDistinct s (s.transaction k) := by
  unfold State.transaction
  split
  · exact .refl s
  · split
    · exact .slots rfl
    · split
      · exact .refl s
      · exact h

theorem keepsDistinct_take {α : Type} {own : α → State → Answer} (sparing : Sparing own) (s : State) (n : Nat)
    (always : Bool) (b : ReqBody α) : KeepsDistinct s (s.take n always b own) := by
  refine keepsDistinct_transaction ?_
  split
  · exact .slots rfl
  · split
    · exact .slots rfl
    · cases b with
      | badLength => exact .slots rfl
      | args a => exact (sparing a s).trans (.slots rfl)

theorem keepsDistinct_event {s : State} {k : State → State} (h : KeepsDistinct s (k s)) :
    KeepsDistinct s (s.event k) := by
  unfold State.event
  split
  · exact .refl s
  · exact h

theorem keepsDistinct_report {α : Type} {s : State} (b : LineBody α) {handle : α → Nat} {inRange : α → Bool}
    {k : α → State → State} (hk : ∀ a s, KeepsDistinct s (k a s)) :
    KeepsDistinct s (s.report b handle inRange k) := by
  have done : KeepsDistinct s s.rrxDone := .slots rfl
  refine keepsDistinct_event ?_
  split
  · exact done
  · cases b with
    | badLength | badSum => exact done
    | fields a =>
      simp only
      split
      · exact done
      · split
        · exact done
        · exact done.trans (hk a s.rrxDone)

theorem keepsDistinct_completion (s : State) {k : State → State} (h : ∀ s, KeepsDistinct s (k s)) :
    KeepsDistinct s (s.event fun s => State.finish s (k s)) :=
  keepsDistinct_event ((h s).finish s)

/-! ### The transitions of the Link Table (R83 to R86, R106) -/

theorem slots_leavePlans (s : State) (h : Nat) (was : LinkState) :
    (s.leavePlans h was).pool.slots = s.pool.slots := by
  unfold State.leavePlans State.trim
  split
  · simp only
    split <;> rfl
  · rfl

theorem slots_enterReleasing (s : State) (h : Nat) (l : Link) : (s.enterReleasing h l).pool.slots = s.pool.slots :=
  slots_leavePlans _ h l.state

theorem slots_enterLost (s : State) (h : Nat) (l : Link) : (s.enterLost h l).pool.slots = s.pool.slots :=
  slots_leavePlans _ h l.state

theorem slots_settleExpires (s : State) (h : Nat) (l : Link) : (s.settleExpires h l).pool.slots = s.pool.slots := by
  unfold State.settleExpires
  split
  · split
    · rfl
    · split
      · rfl
      · exact slots_enterLost s h l
  · exact slots_enterLost s h l
  · rfl

theorem slots_releaseExpires (s : State) (h : Nat) (l : Link) : (s.releaseExpires h l).pool.slots = s.pool.slots := by
  unfold State.releaseExpires
  split
  · split
    · rfl
    · exact slots_enterLost s h l
  · rfl

theorem slots_referralExpires (s : State) (h : Nat) (l : Link) :
    (s.referralExpires h l).pool.slots = s.pool.slots := by
  unfold State.referralExpires
  split <;> rfl

theorem slots_disturbedActive (s : State) (h severity : Nat) (l : Link) :
    (s.disturbedActive h severity l).pool.slots = s.pool.slots := by
  unfold State.disturbedActive
  split
  · unfold State.autoRetune
    split <;> rfl
  all_goals rfl

/-! ### Requests of chapter 1 -/

/-- A profile is installed with an empty pool (R6). -/
theorem thins_installProfile (s : State) (p : Profile) : s.pool.Thins (s.installProfile p).pool := fun i f h => by
  have free : (s.installProfile p).pool.stepAt i = none := congrArg (Option.map Spare.step) (Tab.get_fill i none)
  rw [free] at h
  cases h

theorem sparing_loadProfile : Sparing ownLoadProfile := by
  intro a s
  unfold ownLoadProfile
  split
  · exact .refl s
  · exact .ite (.refl s) (.thins (thins_installProfile s _))

theorem sparing_block : Sparing ownBlock := by
  refine fun k s => .ite (.refl s) (.ite (.refl s) ?_)
  split
  · exact .refl s
  · exact .thins ((Pool.thins_spoilTouching s.pool s.engine.prof k).trans (thins_lowPoolSince _ _))

theorem sparing_unblock : Sparing ownUnblock := fun _ s => .ite (.refl s) (.ite (.event s rfl) (.refl s))

/-! ### Requests of chapters 2 and 4 -/

theorem sparing_setLabel : Sparing ownSetLabel := fun _ s =>
  keepsDistinct_withLink (.ite (.refl s) (.ite (.refl s) (.ite (.refl s) (.slots rfl))))

theorem sparing_setPolicy : Sparing ownSetPolicy := fun _ s =>
  keepsDistinct_withLink (.ite (.refl s) (.slots rfl))

theorem sparing_admit : Sparing ownAdmit := by
  refine fun a s => .ite (.refl s) (.ite (.refl s) ?_)
  split
  · exact .refl s
  · exact .ite (.refl s) (.event s rfl)

theorem sparing_retune : Sparing ownRetune := fun _ s =>
  keepsDistinct_withLink (.ite (.refl s) (.ite (.refl s) (.event s rfl)))

theorem sparing_moveZones : Sparing ownMoveZones := fun _ s =>
  keepsDistinct_withLink (.ite (.refl s) (.ite (.refl s) (.event s rfl)))

theorem sparing_cancelRetune : Sparing ownCancelRetune := fun _ s => keepsDistinct_whileWaiting (.event s rfl)

theorem sparing_tuneNow : Sparing ownTuneNow := fun _ s => keepsDistinct_whileWaiting (.event s rfl)

theorem sparing_retire : Sparing ownRetire := by
  refine fun a s => keepsDistinct_withLink ?_
  have releases : KeepsDistinct s (State.finish s (s.enterReleasing a.handle (s.link a.handle))) :=
    .event s (slots_enterReleasing _ _ _)
  unfold retireBy
  cases (s.link a.handle).state with
  | free | releasing => exact .refl s
  | checking => exact .event s rfl
  | recheck => exact .ite (.refl s) (.event s (slots_enterReleasing _ _ _))
  | retuneWait => exact .ite (.refl s) (.event s (slots_enterReleasing _ _ _))
  | lost => exact releases
  | active | referred | settling | reverting => exact .ite (.refl s) releases

theorem sparing_discard : Sparing ownDiscard := fun _ s => keepsDistinct_withLink (.ite (.refl s) (.event s rfl))

theorem sparing_answerReferral : Sparing ownAnswerReferral := fun _ s =>
  keepsDistinct_withReferral (.ite (.refl s) (.event s rfl))

theorem sparing_declineReferral : Sparing ownDeclineReferral := fun _ _ => keepsDistinct_withReferral (.slots rfl)

/-! ### Requests of chapter 5 -/

/-- The pool holds a step where a spare of that step stands in a slot. -/
theorem Pool.holds_eq_false_iff (p : Pool) (f : Nat) :
    p.holds f = false ↔ ∀ i sp, p.slots.get i none = some sp → sp.step ≠ f := by
  simp only [Pool.holds, List.any_eq_false, beq_iff_eq]
  constructor
  · exact fun none i sp e => none (sp, i) ((p.mem_spares sp i).mpr e)
  · exact fun none x m => none x.2 x.1 ((p.mem_spares x.1 x.2).mp m)

/-- A spare of a new step joins the pool. -/
theorem Pool.distinct_setSlot {p : Pool} (h : p.distinct) {sp : Spare} (fresh : p.holds sp.step = false)
    (slot : Nat) : (p.setSlot slot (some sp)).distinct := by
  rw [Pool.holds_eq_false_iff] at fresh
  intro i j a b ha hb apart
  rw [Pool.setSlot, Tab.get_set] at ha hb
  split at ha
  · rename_i own
    cases ha
    rw [if_neg (fun own' => apart (own.1.trans own'.1.symm))] at hb
    exact (fresh j b hb).symm
  · split at hb
    · cases hb
      exact fresh i a ha
    · exact h i j a b ha hb apart

theorem sparing_seedSpare : Sparing ownSeedSpare := by
  intro a s
  unfold ownSeedSpare
  refine .ite (.refl s) ?_
  split
  · exact .refl s
  · rename_i fresh
    split
    · exact .refl s
    · rename_i slot _
      refine KeepsDistinct.finish (fun h => ?_) s
      have seeded := Pool.distinct_setSlot h (sp := Spare.seeded a) (by simpa [Spare.seeded] using fresh) slot
      exact (Pool.thins_of_slots rfl).distinct seeded

theorem sparing_dropSpare : Sparing ownDropSpare := by
  refine fun slot s => .ite (.refl s) ?_
  split
  · exact .refl s
  · exact .ite (.refl s) (.thins ((s.pool.thins_emptied slot).trans (thins_lowPoolSince _ _)))

theorem slots_evalLowPool (s : State) : s.evalLowPool.pool.slots = s.pool.slots := by
  unfold State.evalLowPool
  split
  · rfl
  · split <;> rfl

theorem sparing_setPoolThreshold : Sparing ownSetPoolThreshold := fun _ _ => .slots (slots_evalLowPool _)

/-! ### Requests of chapter 6 -/

theorem sparing_loadTallyMap : Sparing ownLoadTallyMap := by
  intro a s
  unfold ownLoadTallyMap
  split
  · exact .refl s
  · exact .event s rfl

theorem sparing_clearSource : Sparing ownClearSource := by
  intro n s
  unfold ownClearSource
  split
  · exact .refl s
  · exact .ite (.event s rfl) (.refl s)

theorem sparing_bind : Sparing ownBind := by
  intro a s
  unfold ownBind
  split
  · exact .refl s
  · refine keepsDistinct_withLink (.ite (.refl s) (.ite (.refl s) ?_))
    split
    · exact .refl s
    · exact .ite (.refl s) (.event s rfl)

theorem sparing_unbind : Sparing ownUnbind := by
  intro a s
  unfold ownUnbind
  split
  · exact .refl s
  · split
    · exact .refl s
    · exact .event s rfl

theorem sparing_holdLive : Sparing ownHoldLive := fun _ s =>
  keepsDistinct_withLink (.ite (.refl s) (.ite (.refl s) (.event s rfl)))

theorem sparing_suppress : Sparing ownSuppress := fun _ s =>
  keepsDistinct_withLink (.ite (.refl s) (.ite (.refl s) (.event s rfl)))

/-! ### Requests of chapter 7 -/

theorem sparing_defineKey : Sparing ownDefineKey := by
  intro a s
  unfold ownDefineKey
  split
  · exact .refl s
  · refine .ite (.refl s) ?_
    split
    · exact .refl s
    · split
      · exact .refl s
      · exact .slots rfl

theorem sparing_deleteKey : Sparing ownDeleteKey := by
  refine fun k s => .ite (.refl s) ?_
  split
  · exact .refl s
  · exact .ite (.refl s) (.slots rfl)

theorem sparing_defineDest : Sparing ownDefineDest := by
  intro a s
  unfold ownDefineDest
  split
  · exact .refl s
  · split
    · exact .refl s
    · exact .ite (.refl s) (.slots rfl)

theorem keepsDistinct_changeDest (s : State) (id : Nat) (f : Dest → Dest) : KeepsDistinct s (s.changeDest id f) := by
  refine .event s ?_
  unfold State.restandOne
  split <;> rfl

theorem sparing_setTarget : Sparing ownSetTarget := by
  refine fun a s => .ite (.refl s) ?_
  split
  · exact .refl s
  · exact keepsDistinct_changeDest s _ _

theorem sparing_setWatch : Sparing ownSetWatch := by
  refine fun a s => .ite (.refl s) ?_
  split
  · exact .refl s
  · exact keepsDistinct_changeDest s _ _

theorem sparing_deleteDest : Sparing ownDeleteDest := by
  refine fun id s => .ite (.refl s) ?_
  split
  · exact .refl s
  · exact .ite (.refl s) (.slots rfl)

theorem sparing_setLast : Sparing ownSetLast := by
  refine fun k s => .ite (.refl s) ?_
  split
  · exact .refl s
  · exact .slots rfl

theorem sparing_clearTalk : Sparing ownClearTalk := fun _ s => .event s rfl

/-! ### Requests of chapters 8 and 10 -/

theorem sparing_stageDown : Sparing ownStageDown := fun _ s => .ite (.refl s) (.ite (.refl s) (.slots rfl))

theorem sparing_stageListen : Sparing ownStageListen := fun _ s => keepsDistinct_stagePack s _ _ _

theorem sparing_stageUp : Sparing ownStageUp := fun _ s => keepsDistinct_stagePack s _ _ _

theorem sparing_commit : Sparing ownCommit := by
  refine fun _ s => .ite (.refl s) ?_
  split
  · exact .refl s
  · exact .slots rfl

theorem sparing_discardPlan : Sparing ownDiscardPlan := fun _ _ => .slots rfl

theorem sparing_readSummary : Sparing ownReadSummary := fun _ _ => .slots rfl

/-! ### Reports and expiries -/

theorem keepsDistinct_expiry (s : State) (h : Nat) (kind : TimerKind) {k : State → Nat → Link → State}
    (hk : ∀ s h l, (k s h l).pool.slots = s.pool.slots) : KeepsDistinct s (s.expiry h kind k) := by
  refine keepsDistinct_event ?_
  split
  · split
    · exact .event s (hk _ h _)
    · exact .refl s
  · exact .refl s

theorem keepsDistinct_tunedAt (s : State) (h step : Nat) : KeepsDistinct s (s.tunedAt h step) := by
  have reached := (besideLink_reachActive s h (s.link h) step).slots
  unfold State.tunedAt
  simp only
  split
  · exact .refl s
  · split
    · exact .event s reached
    · split
      · exact .event s reached
      · exact .refl s

theorem keepsDistinct_mutedAt (s : State) (h : Nat) : KeepsDistinct s (s.mutedAt h) := by
  unfold State.mutedAt
  simp only
  split
  · exact .event s rfl
  · exact .refl s

theorem keepsDistinct_disturb (s : State) (h severity : Nat) : KeepsDistinct s (s.disturb h severity) := by
  unfold State.disturb
  simp only
  split
  · exact .event s (slots_disturbedActive s h _ _)
  · exact .slots rfl

theorem keepsDistinct_keyEvent (s : State) (origin : Origin) (press : Bool) :
    KeepsDistinct s (s.keyEvent origin press) := by
  unfold State.keyEvent
  split
  · exact .refl s
  · exact .event s rfl

theorem keepsDistinct_panelEvent (s : State) (b : LineBody PanelArgs) (press : Bool) :
    KeepsDistinct s (s.panelEvent b press) := by
  have done : KeepsDistinct s s.mrxDone := .slots rfl
  refine keepsDistinct_event ?_
  split
  · exact done
  · cases b with
    | badLength | badSum => exact done
    | fields a =>
      simp only
      split
      · exact done.trans (keepsDistinct_keyEvent _ _ _)
      · exact done

/-! ### The tally lines -/

theorem keepsDistinct_lineDone (s : State) (x : Source) : KeepsDistinct s (s.lineDone x) := by
  rw [lineDone_eq]
  exact .slots rfl

theorem keepsDistinct_tallyFrame (s : State) (x : Source) (b : LineBody FrameArgs) :
    KeepsDistinct s (s.tallyFrame x b) := by
  unfold State.tallyFrame
  split
  · exact .refl s
  · exact .refl s
  · split
    · exact .refl s
    · split
      · exact .refl s
      · refine .event s ?_
        rw [State.noteLive_eq]
        rfl

/-! ### Every command -/

theorem event_keepsDistinct {c : Instr} (h : c.request = none) (s : State) :
    ∃ t, exec c s = .next t ∧ KeepsDistinct s t := by
  cases c
  all_goals cases h
  case framingError => exact ⟨_, rfl, keepsDistinct_transaction (.slots rfl)⟩
  case collect =>
    refine ⟨_, rfl, keepsDistinct_event ?_⟩
    split
    · exact .refl s
    · exact .slots rfl
  case collectEnd =>
    refine ⟨_, rfl, keepsDistinct_event ?_⟩
    unfold State.selRises
    split
    · exact .slots rfl
    · split
      · exact .slots rfl
      · exact .refl s
  case checkCompletion => exact ⟨_, rfl, keepsDistinct_completion s fun s => .thins (thins_checkCompletes s)⟩
  case trialEnd => exact ⟨_, rfl, keepsDistinct_completion s fun s => .thins (thins_trialEnds s)⟩
  case sweepUnitCompletion =>
    exact ⟨_, rfl, keepsDistinct_completion s fun s => .thins (thins_sweepCompletes s)⟩
  case settleTimerExpiry h => exact ⟨_, rfl, keepsDistinct_expiry s h _ slots_settleExpires⟩
  case releaseTimerExpiry h => exact ⟨_, rfl, keepsDistinct_expiry s h _ slots_releaseExpires⟩
  case referralTimerExpiry h => exact ⟨_, rfl, keepsDistinct_expiry s h _ slots_referralExpires⟩
  case tuned b => exact ⟨_, rfl, keepsDistinct_report b fun a s => keepsDistinct_tunedAt s _ _⟩
  case muted b => exact ⟨_, rfl, keepsDistinct_report b fun h s => keepsDistinct_mutedAt s h⟩
  case interference b => exact ⟨_, rfl, keepsDistinct_report b fun a s => keepsDistinct_disturb s _ _⟩
  case carrierLoss b => exact ⟨_, rfl, keepsDistinct_report b fun _ _ => .slots rfl⟩
  case carrierBack b => exact ⟨_, rfl, keepsDistinct_report b fun _ _ => .slots rfl⟩
  case key b =>
    refine ⟨_, rfl, keepsDistinct_report b fun a s => ?_⟩
    split
    · exact keepsDistinct_keyEvent s _ _
    · exact .refl s
  case radioReceiveTimeout => exact ⟨_, rfl, keepsDistinct_event (.slots rfl)⟩
  case radioUnknownReportType => exact ⟨_, rfl, keepsDistinct_event (.slots rfl)⟩
  case ctsAsserted =>
    have asserted : KeepsDistinct s (s.setRadio { s.radio with cts := true }) := .slots rfl
    exact ⟨_, rfl, asserted.trans (keepsDistinct_event (.event _ rfl))⟩
  case ctsWithdrawn => exact ⟨_, rfl, .slots rfl⟩
  case radioMessageComplete => exact ⟨_, rfl, keepsDistinct_completion s fun _ => .slots rfl⟩
  case press b => exact ⟨_, rfl, keepsDistinct_panelEvent s b true⟩
  case release b => exact ⟨_, rfl, keepsDistinct_panelEvent s b false⟩
  case matrixReceiveTimeout => exact ⟨_, rfl, keepsDistinct_event (.slots rfl)⟩
  case matrixUnknownEventType => exact ⟨_, rfl, keepsDistinct_event (.slots rfl)⟩
  case routeComplete => exact ⟨_, rfl, keepsDistinct_completion s fun _ => .slots rfl⟩
  case tallyFrame x b =>
    exact ⟨_, rfl, keepsDistinct_event ((keepsDistinct_lineDone s x).trans (keepsDistinct_tallyFrame _ x b))⟩
  case tallyReceiveTimeout x => exact ⟨_, rfl, keepsDistinct_event (keepsDistinct_lineDone s x)⟩
  case tallyUnknownMessageType x _ => exact ⟨_, rfl, keepsDistinct_event (keepsDistinct_lineDone s x)⟩
  case livenessExpiry x =>
    refine ⟨_, rfl, keepsDistinct_event ?_⟩
    split
    · exact .event s rfl
    · exact .refl s
  case talkDeadlineExpiry k =>
    refine ⟨_, rfl, keepsDistinct_event ?_⟩
    split
    · exact .event s rfl
    · exact .refl s
  case frameMark =>
    refine ⟨_, rfl, ?_⟩
    unfold State.outside
    split
    · exact .refl s
    · simp only
      split
      · exact .event s rfl
      · exact .refl s
  case hardwareReset => exact ⟨_, rfl, fun _ => distinct_reset⟩
  case resetRisingEdge =>
    refine ⟨_, rfl, ?_⟩
    split
    · exact .slots rfl
    · exact .refl s

theorem writer_keepsDistinct {c : Instr} {n : Nat} {ok : Bool} (hl : c.lookup = false)
    (h : c.request = some (n, ok)) (s : State) : ∃ t, exec c s = .next t ∧ KeepsDistinct s t := by
  cases c
  all_goals cases hl
  all_goals cases h
  case unrecognisedRequest =>
    refine ⟨_, rfl, keepsDistinct_transaction ?_⟩
    split <;> exact .slots rfl
  case loadProfile b => exact ⟨_, rfl, keepsDistinct_take sparing_loadProfile s _ _ b⟩
  case block b => exact ⟨_, rfl, keepsDistinct_take sparing_block s _ _ b⟩
  case unblock b => exact ⟨_, rfl, keepsDistinct_take sparing_unblock s _ _ b⟩
  case setLabel b => exact ⟨_, rfl, keepsDistinct_take sparing_setLabel s _ _ b⟩
  case setPolicy b => exact ⟨_, rfl, keepsDistinct_take sparing_setPolicy s _ _ b⟩
  case admitLink b => exact ⟨_, rfl, keepsDistinct_take sparing_admit s _ _ b⟩
  case retune b => exact ⟨_, rfl, keepsDistinct_take sparing_retune s _ _ b⟩
  case moveZones b => exact ⟨_, rfl, keepsDistinct_take sparing_moveZones s _ _ b⟩
  case cancelRetune b => exact ⟨_, rfl, keepsDistinct_take sparing_cancelRetune s _ _ b⟩
  case tuneNow b => exact ⟨_, rfl, keepsDistinct_take sparing_tuneNow s _ _ b⟩
  case retire b => exact ⟨_, rfl, keepsDistinct_take sparing_retire s _ _ b⟩
  case discard b => exact ⟨_, rfl, keepsDistinct_take sparing_discard s _ _ b⟩
  case seedSpare b => exact ⟨_, rfl, keepsDistinct_take sparing_seedSpare s _ _ b⟩
  case dropSpare b => exact ⟨_, rfl, keepsDistinct_take sparing_dropSpare s _ _ b⟩
  case setPoolThreshold b => exact ⟨_, rfl, keepsDistinct_take sparing_setPoolThreshold s _ _ b⟩
  case answerReferral b => exact ⟨_, rfl, keepsDistinct_take sparing_answerReferral s _ _ b⟩
  case declineReferral b => exact ⟨_, rfl, keepsDistinct_take sparing_declineReferral s _ _ b⟩
  case loadTallyMap b => exact ⟨_, rfl, keepsDistinct_take sparing_loadTallyMap s _ _ b⟩
  case clearSource b => exact ⟨_, rfl, keepsDistinct_take sparing_clearSource s _ _ b⟩
  case bind b => exact ⟨_, rfl, keepsDistinct_take sparing_bind s _ _ b⟩
  case unbind b => exact ⟨_, rfl, keepsDistinct_take sparing_unbind s _ _ b⟩
  case holdLive b => exact ⟨_, rfl, keepsDistinct_take sparing_holdLive s _ _ b⟩
  case suppress b => exact ⟨_, rfl, keepsDistinct_take sparing_suppress s _ _ b⟩
  case defineKey b => exact ⟨_, rfl, keepsDistinct_take sparing_defineKey s _ _ b⟩
  case deleteKey b => exact ⟨_, rfl, keepsDistinct_take sparing_deleteKey s _ _ b⟩
  case defineDest b => exact ⟨_, rfl, keepsDistinct_take sparing_defineDest s _ _ b⟩
  case setTarget b => exact ⟨_, rfl, keepsDistinct_take sparing_setTarget s _ _ b⟩
  case setWatch b => exact ⟨_, rfl, keepsDistinct_take sparing_setWatch s _ _ b⟩
  case deleteDest b => exact ⟨_, rfl, keepsDistinct_take sparing_deleteDest s _ _ b⟩
  case setLast b => exact ⟨_, rfl, keepsDistinct_take sparing_setLast s _ _ b⟩
  case clearTalk b => exact ⟨_, rfl, keepsDistinct_take sparing_clearTalk s _ _ b⟩
  case stageDown b => exact ⟨_, rfl, keepsDistinct_take sparing_stageDown s _ _ b⟩
  case stageListen b => exact ⟨_, rfl, keepsDistinct_take sparing_stageListen s _ _ b⟩
  case stageUp b => exact ⟨_, rfl, keepsDistinct_take sparing_stageUp s _ _ b⟩
  case commit b => exact ⟨_, rfl, keepsDistinct_take sparing_commit s _ _ b⟩
  case discardPlan b => exact ⟨_, rfl, keepsDistinct_take sparing_discardPlan s _ _ b⟩
  case readSummary b => exact ⟨_, rfl, keepsDistinct_take sparing_readSummary s _ _ b⟩

theorem exec_keepsDistinct (c : Instr) (s : State) : ∃ t, exec c s = .next t ∧ KeepsDistinct s t := by
  cases h : c.request with
  | none => exact event_keepsDistinct h s
  | some r =>
    cases hl : c.lookup with
    | false => exact writer_keepsDistinct hl h s
    | true =>
      obtain ⟨α, b, own, reads, e⟩ := lookup_taken hl h
      exact ⟨_, e s, keepsDistinct_take reads.sparing s _ _ b⟩

/-- Settles O56, command by command: only SEED SPARE puts a spare into the pool, and it refuses a step that the
pool holds. -/
theorem stepKeepsSparesDistinct : Obligations.StepKeepsSparesDistinct := by
  intro s t distinct run
  unfold step at run
  split at run
  · rename_i c rest _
    obtain ⟨u, e, keeps⟩ := exec_keepsDistinct c (s.setPending rest)
    rw [e] at run
    cases run
    exact keeps distinct
  · cases run
    split <;> exact distinct

end Sys2Proof.Machine
end

section
/-! SEED SPARE and DROP SPARE (O34): R92, R93, R96, R97, R101; SET POOL THRESHOLD (O35): R101, R102. -/

namespace Sys2Proof.Machine

open Sys2Proof

/-! ### SEED SPARE (R92) -/

theorem Pool.lowestFree_eq_some {p : Pool} {i : Nat} (lt : i < 32) (free : p.slots.get i none = none)
    (taken : ∀ k, k < i → (p.slots.get k none).isSome = true) : p.lowestFree = some i := by
  have found : (List.range 32).find? (fun k => (p.slots.get k none).isNone) = some i := by
    refine List.find?_range_eq_some.mpr ⟨by simp [free], List.mem_range.mpr lt, fun k below => ?_⟩
    simpa using taken k below
  rw [Pool.lowestFree, p.slots.entries_eq none, List.find?_map, Option.map_map]
  exact (congrArg (Option.map _) found).trans rfl

/-- Spare `a` put into slot `i`, and sweep-wanted set. -/
def State.seeded (s : State) (i : Nat) (a : SpareArgs) : State :=
  (s.setPool (s.pool.setSlot i (some (Spare.seeded a)))).wantSweep

theorem ownSeedSpare_accepted {s : State} {f c i : Nat} {z : ZoneSet} (step : f ≤ 108000) (cls : c ≤ 7)
    (zones : z ≠ 0) (fresh : ∀ k sp, s.pool.slots.get k none = some sp → sp.step ≠ f)
    (lowest : s.pool.lowestFree = some i) :
    ownSeedSpare ⟨f, c, z⟩ s = State.done s (s.seeded i ⟨f, c, z⟩) .ok (.slot i) := by
  have new : s.pool.holds f = false := (s.pool.holds_eq_false_iff f).mpr fresh
  simp [ownSeedSpare, stepOk, step, classOk, cls, zonesOk_of zones, new, lowest, State.seeded]

/-- A settled engine has no job that the pool's spares could bear on. -/
theorem quiet_of_engine {s u : State} (settled : s.engineSettled) (e : u.engine = s.engine) : u.quiet := by
  intro idle j head
  obtain ⟨empty, -⟩ := settled (e ▸ idle)
  rw [e, empty] at head
  cases head

/-- What the event of an accepted SEED SPARE leaves. -/
theorem seeded_ends {s : State} {i : Nat} (lt : i < 32) (settled : s.engineSettled) (a : SpareArgs) :
    SameButEnd (s.seeded i a) (State.finish s (s.seeded i a))
      ∧ (∃ sp, (State.finish s (s.seeded i a)).pool.slots.get i none = some sp
          ∧ sp.step = a.step ∧ sp.cls = a.cls ∧ sp.zones = a.zones ∧ sp.status = .unchecked ∧ sp.margin = none)
      ∧ s.sweepAsked { s.pool with slots := s.pool.slots.set i (some (Spare.seeded a)) }
          (State.finish s (s.seeded i a)) := by
  have quiet : (s.seeded i a).quiet := quiet_of_engine settled rfl
  have slot : (s.seeded i a).pool.slots.get i none = some (Spare.seeded a) := Tab.get_set_same _ _ _ lt
  obtain ⟨sp, own, kept⟩ := (slotKept_finish s quiet i).of_some slot
  exact ⟨sameButEnd_finish s quiet, ⟨sp, own, Spare.fields_of_unmarked kept⟩,
    sweepAsked_finish (u := s.seeded i a) rfl rfl rfl s⟩

/-! ### DROP SPARE (R93) -/

/-- The spare in slot `i` taken out of the pool, with the low-pool evaluation. -/
def State.dropped (s : State) (i : Nat) : State :=
  (s.setPool (s.pool.setSlot i none)).lowPoolSince s.pool.clearCount

theorem ownDropSpare_free {s : State} {i : Nat} (le : i ≤ 31) (free : s.pool.slots.get i none = none) :
    ownDropSpare i s = s.ok := by
  simp [ownDropSpare, Nat.not_lt.mpr le, free]

theorem ownDropSpare_trial {s : State} {i : Nat} (le : i ≤ 31) {sp : Spare}
    (spare : s.pool.slots.get i none = some sp) (trial : sp.inUse = .trial) :
    ownDropSpare i s = s.refuse .busy := by
  simp [ownDropSpare, Nat.not_lt.mpr le, spare, trial]

theorem ownDropSpare_taken {s : State} {i : Nat} (le : i ≤ 31) {sp : Spare}
    (spare : s.pool.slots.get i none = some sp) (untried : sp.inUse ≠ .trial) :
    ownDropSpare i s = (s.dropped i).ok := by
  simp [ownDropSpare, Nat.not_lt.mpr le, spare, untried, State.dropped]

/-- A spare that is not CLEAR does not count for the CLEAR ones. -/
theorem Pool.clearCount_emptied {p : Pool} {i : Nat} {sp : Spare} (spare : p.slots.get i none = some sp)
    (other : sp.status ≠ .clear) : (p.setSlot i none).clearCount = p.clearCount := by
  rw [Pool.clearCount, Pool.clearCount, Pool.count_eq, Pool.count_eq, Tab.countP_rows _ none,
    Tab.countP_rows _ none]
  congr 1
  funext k
  rw [Pool.setSlot, Tab.get_set]
  split
  · rename_i own
    rw [own.1, spare]
    simpa using other
  · rfl

/-- What DROP SPARE leaves of a part, before its answer. -/
theorem dropped_leaves (s : State) (i : Nat) :
    SameButAlert (s.setPool (s.pool.setSlot i none)) (s.dropped i) ∧ SameOutside s (s.dropped i)
      ∧ s.lowPoolJudged (s.dropped i) s.port :=
  ⟨sameButAlert_lowPoolSince _ _, (sameOutside_setPool s _).trans (sameOutside_lowPoolSince _ _),
    lowPoolJudged_lowPoolSince (u := s.setPool (s.pool.setSlot i none)) rfl rfl⟩

/-- Settles O34: a seeded spare keeps all but its mark to the end of its event, which looks for sweep work; a
dropped one leaves its slot, and the number of CLEAR spares judges the alert. -/
theorem spareRequests : Obligations.SpareRequests := by
  refine ⟨fun f c i z s accepts step cls zones settled fresh lt free taken => ?_,
    fun i s accepts le => ⟨fun free => ?_, fun sp spare trial => ?_, fun sp spare untried => ?_⟩⟩
  · have lowest := Pool.lowestFree_eq_some lt free taken
    obtain ⟨ends, ⟨sp, slot, step', cls', zones', status, margin⟩, swept⟩ := seeded_ends lt settled ⟨f, c, z⟩
    exact ⟨_, sp, congrArg Host.Outcome.next
        (take_done accepts (ownSeedSpare_accepted step cls zones fresh lowest) 19),
      slot, step', cls', zones', status, margin, swept, answeredOnly_respond ends.port _ _ _, ends.queue,
      ends.lasting, ends.talk, ends.venue, ends.outside.same⟩
  · refine congrArg Host.Outcome.next ((take_accepts accepts 20 false i ownDropSpare).trans ?_)
    rw [ownDropSpare_free le free]
    rfl
  · refine congrArg Host.Outcome.next ((take_accepts accepts 20 false i ownDropSpare).trans ?_)
    rw [ownDropSpare_trial le spare trial]
    rfl
  · have run := take_accepts accepts 20 false i ownDropSpare
    rw [ownDropSpare_taken le spare untried] at run
    obtain ⟨alert, outside, judged⟩ := dropped_leaves s i
    refine ⟨_, congrArg Host.Outcome.next run, rfl, alert.slots, lowPoolJudged_respond judged 20 .ok .empty,
      alert.sweepWanted, alert.sweepPos, fun other => ?_, alert.links, alert.engine, alert.talk, alert.plans,
      alert.radio, alert.mtx, outside.same⟩
    have count : (s.dropped i).pool.clearCount = s.pool.clearCount :=
      (Pool.count_congr alert.slots .clear).trans (Pool.clearCount_emptied spare other)
    obtain ⟨armed, port⟩ := judged.2.1 (.inl count)
    exact ⟨armed, (congrArg Port.notices port :)⟩

/-! ### SET POOL THRESHOLD (R102) -/

theorem evalLowPool_above {s : State} (above : s.pool.threshold < s.pool.clearCount) :
    s.evalLowPool = s.setPool { s.pool with armed := true } := if_pos above

theorem evalLowPool_low {s : State} (low : s.pool.clearCount ≤ s.pool.threshold) (armed : s.pool.armed = true) :
    s.evalLowPool
      = (s.setPool { s.pool with armed := false }).notify (.poolLow s.pool.clearCount s.pool.threshold) :=
  (if_neg (Nat.not_lt.mpr low)).trans (if_pos armed)

/-- Settles O35: the low-pool evaluation, with the alert armed, on both sides of its boundary. -/
theorem setPoolThresholdActs : Obligations.SetPoolThresholdActs := by
  intro n s accepts
  have run := take_accepts accepts 22 false n ownSetPoolThreshold
  unfold ownSetPoolThreshold at run
  refine ⟨fun above => ?_, fun low => ?_⟩
  · rw [evalLowPool_above (s := s.setPool { s.pool with threshold := min n 32, armed := true }) above] at run
    exact congrArg Host.Outcome.next run
  · rw [evalLowPool_low (s := s.setPool { s.pool with threshold := min n 32, armed := true }) low rfl] at run
    exact congrArg Host.Outcome.next run

end Sys2Proof.Machine
end

section
/-! DECLINE REFERRAL (O36): R108; INTERFERENCE by the policy of the link (O37): R27, R103, R104, R106. -/

namespace Sys2Proof.Machine

open Sys2Proof

/-! ### DECLINE REFERRAL (R108) -/

theorem withReferral_bad {s : State} {h : Nat} (bad : 159 < h) (k : Link → Answer) :
    s.withReferral h true k = s.refuse .badArgument := by
  simp [State.withReferral, handleOk, bad]

theorem withReferral_none {s : State} {h : Nat} (le : h ≤ 159) (other : (s.link h).state ≠ .referred)
    (k : Link → Answer) : s.withReferral h true k = s.refuse .noReferral := by
  simp [State.withReferral, (handleOk_iff h).mpr le, other]

theorem withReferral_open {s : State} {h : Nat} (le : h ≤ 159) (referred : (s.link h).state = .referred)
    (k : Link → Answer) : s.withReferral h true k = k (s.link h) := by
  simp [State.withReferral, (handleOk_iff h).mpr le, referred]

/-- Settles O36, by the three outcomes of a request that only an open referral takes. -/
theorem declineReferralActs : Obligations.DeclineReferralActs := by
  intro h s accepts
  have run := take_accepts accepts 24 false h ownDeclineReferral
  unfold ownDeclineReferral at run
  refine ⟨fun bad => ?_, fun le other => ?_, fun le referred => ?_⟩
  · rw [withReferral_bad bad] at run
    exact congrArg Host.Outcome.next run
  · rw [withReferral_none le other] at run
    exact congrArg Host.Outcome.next run
  · rw [withReferral_open le referred] at run
    exact congrArg Host.Outcome.next run

/-! ### INTERFERENCE (R103, R104) -/

theorem exec_interference {s : State} {h : Nat} (live : s.live) (le : h ≤ 159) (occupied : (s.link h).state ≠ .free)
    (v : Nat) : exec (.interference (.fields ⟨h, v⟩)) s = .next (s.rrxDone.disturb h v) :=
  congrArg Host.Outcome.next (report_live (inRange := fun _ => true) live ((handleOk_iff h).mpr le) rfl occupied _)

theorem disturb_active {s : State} {h : Nat} {l : Link} (counted : l = (s.link h).disturbed)
    (active : l.state = .active) (v : Nat) :
    s.disturb h v = State.finish s (s.disturbedActive h (min v 3) l) := by
  subst counted
  exact if_pos active

theorem disturb_other {s : State} {h : Nat} {l : Link} (counted : l = (s.link h).disturbed)
    (other : l.state ≠ .active) (v : Nat) : s.disturb h v = s.setLink h l := by
  subst counted
  exact if_neg other

section

variable {s : State} {h n : Nat} {l : Link}

/-- A policy of NONE reports the interference. -/
theorem disturbedActive_reported (none : l.policy = some .none) :
    s.disturbedActive h n l = (s.setLink h l).notify (.interference h n l.interference) := by
  simp only [State.disturbedActive, none]

/-- A policy of REFER, or of AUTO at a full queue, refers the link. -/
theorem disturbedActive_referred {why : Referral} (refers : l.policy = some .refer ∧ why = .policy n
      ∨ l.policy = some .auto ∧ 12 ≤ s.engine.queue.length ∧ why = .queue n) :
    s.disturbedActive h n l = s.enterReferred h l why := by
  rcases refers with ⟨refer, rfl⟩ | ⟨auto, full, rfl⟩
  · simp only [State.disturbedActive, refer]
  · simp [State.disturbedActive, auto, State.autoRetune, Engine.full, full]

/-- A policy of AUTO queues a pool job while the queue has room. -/
theorem disturbedActive_queued (auto : l.policy = some .auto) (room : s.engine.queue.length < 12) :
    s.disturbedActive h n l
      = (s.setLink h { l with state := .recheck, job := some .auto, target := none }).offer
          (l.jobOf .auto h none false) := by
  simp [State.disturbedActive, auto, State.autoRetune, not_full room]

/-- The end of an event that writes one record and queues a notice. -/
theorem notified_ends (lt : h < 160) (quiet : s.quiet) (s0 : State) (notice : Notice) :
    let t := State.finish s0 ((s.setLink h l).notify notice)
    s.linkBecomes t h l ∧ s.otherLinks t h ∧ t.port = s.port.queue notice ∧ t.engine.queue = s.engine.queue
      ∧ t.talk = s.talk ∧ t.plans = s.plans ∧ s.sameOutside t := by
  obtain ⟨becomes, other, queue, ⟨-, -, plans, -⟩, outside, port, talk⟩ :=
    ((besideLink_setLink s h l).notify notice).ends (s.link_setLink_same l lt) quiet s0
  exact ⟨becomes, other, port, queue, talk, plans, outside⟩

/-- The end of an event that writes one record and offers a job that completes nothing at once. -/
theorem offered_ends (lt : h < 160) {j : Job} (starts : s.startsOrWaits j) (s0 : State) :
    let t := State.finish s0 ((s.setLink h l).offer j)
    s.linkBecomes t h l ∧ s.otherLinks t h ∧ t.port = s.port ∧ t.engine.queue = s.engine.queue ++ [j]
      ∧ t.talk = s.talk ∧ t.plans = s.plans ∧ s.sameOutside t := by
  have quiet := quiet_offer starts h l
  have ends := sameButEnd_finish s0 quiet
  have written : WritesLink s ((s.setLink h l).offer j) h l := (writesLink_setLink s lt l).beside rfl rfl
  obtain ⟨becomes, other⟩ := written.ends quiet s0
  exact ⟨becomes, other, ends.port, ends.queue, ends.talk, ends.plans, ends.outside.same⟩

end

/-- Settles O37: the report leaves the receiver empty and the count raised, and an ACTIVE link's policy decides
how its event ends. -/
theorem interferenceByPolicy : Obligations.InterferenceByPolicy := by
  intro h v l s live le occupied counted
  have lt : h < 160 := Nat.lt_succ_of_le le
  have counted : l = (s.rrxDone.link h).disturbed := counted
  have run := exec_interference live le occupied v
  refine ⟨fun other => ?_, fun active quiet none => ?_, fun active quiet why refers => ?_,
    fun active auto room j job starts => ?_⟩
  · rw [disturb_other counted other] at run
    exact run
  · rw [disturb_active counted active, disturbedActive_reported none] at run
    exact ⟨_, run, notified_ends (s := s.rrxDone) lt quiet _ _⟩
  · rw [disturb_active counted active, disturbedActive_referred (s := s.rrxDone) refers] at run
    exact ⟨_, run, notified_ends (s := s.rrxDone) lt quiet _ _⟩
  · subst job
    rw [disturb_active counted active, disturbedActive_queued (s := s.rrxDone) auto room] at run
    exact ⟨_, run, offered_ends (s := s.rrxDone) lt starts _⟩

end Sys2Proof.Machine
end

section
/-! The offences COMMIT looks for (R161): each is the first of its kind in the order the rule examines, and a plan
has none where its destinations, its links, its slots and its upstream slots allow it. -/

namespace Sys2Proof.Machine

open Sys2Proof

/-! ### What an ordered scan finds -/

section

variable {α : Type}

/-- What holds of each entry of an ascending list and the later ones holds of any two in their order. -/
theorem rel_of_ascending {l : List α} {key : α → Nat} (ascends : l.Pairwise fun x y => key x < key y)
    {R : α → α → Prop} (h : l.Pairwise R) {x y : α} (hx : x ∈ l) (hy : y ∈ l) (below : key x < key y) : R x y :=
  List.Pairwise.forall_of_forall_of_flip (R := fun x y => key x < key y → R x y)
    (fun z _ below => absurd below (Nat.lt_irrefl (key z))) (h.imp (S := fun x y => key x < key y → R x y) fun r _ => r)
    (ascends.imp fun below above => absurd above (Nat.lt_asymm below)) hx hy below

/-- What a scan of an ascending list finds has none of its sort below it. -/
theorem find?_ascending {l : List α} {key : α → Nat} (ascends : l.Pairwise fun x y => key x < key y)
    {p : α → Bool} {x : α} (h : l.find? p = some x) :
    p x = true ∧ x ∈ l ∧ ∀ y, y ∈ l → key y < key x → p y = false := by
  obtain ⟨own, before, after, rfl, none⟩ := List.find?_eq_some_iff_append.mp h
  obtain ⟨-, rest, -⟩ := List.pairwise_append.mp ascends
  refine ⟨own, List.mem_append_right _ List.mem_cons_self, fun y m below => ?_⟩
  rcases List.mem_append.mp m with first | last
  · simpa using none y first
  · rcases List.mem_cons.mp last with rfl | last
    · exact absurd below (Nat.lt_irrefl _)
    · exact absurd below (Nat.lt_asymm ((List.pairwise_cons.mp rest).1 y last))

/-- The scan of offences 2 and 5: the first entry that clashes with one before it, with the first such one. -/
def firstClash (clash : α → α → Bool) (seen : List α) : List α → Option (α × α)
  | [] => none
  | x :: rest =>
    match seen.find? (clash · x) with
    | some y => some (y, x)
    | none => firstClash clash (seen ++ [x]) rest

variable {clash : α → α → Bool} {seen l : List α} {x y : α}

theorem firstClash_eq_none_iff : firstClash clash seen l = none
    ↔ (∀ x, x ∈ l → ∀ y, y ∈ seen → clash y x = false) ∧ l.Pairwise fun y x => clash y x = false := by
  induction l generalizing seen with
  | nil => simp [firstClash]
  | cons x rest ih =>
    unfold firstClash
    cases found : seen.find? (clash · x) with
    | some y =>
      have clashes := List.find?_some found
      simp only [reduceCtorEq, false_iff, not_and]
      intro none
      rw [none x List.mem_cons_self y (List.mem_of_find?_eq_some found)] at clashes
      cases clashes
    | none =>
      simp only [List.find?_eq_none, Bool.not_eq_true] at found
      simp only [ih, List.mem_append, List.pairwise_cons, List.mem_cons, List.not_mem_nil, or_false]
      constructor
      · rintro ⟨fresh, rest⟩
        refine ⟨?_, fun z m => fresh z m x (.inr rfl), rest⟩
        rintro z (rfl | m)
        · exact found
        · exact fun y seen => fresh z m y (.inl seen)
      · rintro ⟨fresh, own, rest⟩
        refine ⟨?_, rest⟩
        rintro z m y (seen | rfl)
        · exact fresh z (.inr m) y seen
        · exact own z m

theorem firstClash_eq_some (h : firstClash clash seen l = some (y, x)) :
    ∃ before after, l = before ++ x :: after ∧ y ∈ seen ++ before ∧ clash y x = true
      ∧ firstClash clash seen before = none := by
  induction l generalizing seen with
  | nil => cases h
  | cons z rest ih =>
    unfold firstClash at h
    cases found : seen.find? (clash · z) with
    | some w =>
      simp only [found, Option.some.injEq, Prod.mk.injEq] at h
      obtain ⟨rfl, rfl⟩ := h
      have clashes : clash w z = true := List.find?_some (p := (clash · z)) found
      exact ⟨[], rest, rfl, by simpa using List.mem_of_find?_eq_some found, clashes, rfl⟩
    | none =>
      rw [found] at h
      obtain ⟨before, after, rfl, m, clashes, none⟩ := ih h
      refine ⟨z :: before, after, rfl, by simpa using m, clashes, ?_⟩
      unfold firstClash
      rw [found]
      exact none

/-- In an ascending list, the clash found is the first. -/
theorem firstClash_ascending {key : α → Nat} (ascends : l.Pairwise fun x y => key x < key y)
    (h : firstClash clash [] l = some (y, x)) :
    y ∈ l ∧ x ∈ l ∧ key y < key x ∧ clash y x = true
      ∧ ∀ z w, z ∈ l → w ∈ l → key z < key w → key w < key x → clash z w = false := by
  obtain ⟨before, after, rfl, m, clashes, none⟩ := firstClash_eq_some h
  rw [List.nil_append] at m
  obtain ⟨first, rest, apart⟩ := List.pairwise_append.mp ascends
  obtain ⟨own, -⟩ := List.pairwise_cons.mp rest
  have early : ∀ z, z ∈ before ++ x :: after → key z < key x → z ∈ before := fun z m below => by
    rcases List.mem_append.mp m with early | late
    · exact early
    · rcases List.mem_cons.mp late with rfl | late
      · exact absurd below (Nat.lt_irrefl _)
      · exact absurd below (Nat.lt_asymm (own z late))
  have distinct := (firstClash_eq_none_iff.mp none).2
  exact ⟨List.mem_append_left _ m, List.mem_append_right _ List.mem_cons_self,
    apart y m x List.mem_cons_self, clashes,
    fun z w hz hw below under =>
      rel_of_ascending first distinct (early z hz (below.trans under)) (early w hw under) below⟩

end

/-! ### The entries of a plan in their order -/

theorem Plan.downs_eq (p : Plan) :
    p.downs = (List.range 12).filterMap fun i => (p.down.get i none).map fun d => (d, i) := by
  rw [Plan.downs, p.down.entries_eq none, List.filterMap_map]
  rfl

theorem Plan.mem_downs (p : Plan) (d i : Nat) : (d, i) ∈ p.downs ↔ p.down.get i none = some d := by
  simp only [Plan.downs_eq, List.mem_filterMap, List.mem_range, Option.map_eq_some_iff, Prod.mk.injEq]
  constructor
  · rintro ⟨_, _, _, e, rfl, rfl⟩
    exact e
  · exact fun e => ⟨i, Tab.lt_of_get_some e, d, e, rfl, rfl⟩

theorem Plan.downs_ascend (p : Plan) : p.downs.Pairwise fun x y => x.2 < y.2 := by
  rw [Plan.downs_eq, List.pairwise_filterMap]
  refine List.pairwise_lt_range.imp fun below x hx y hy => ?_
  obtain ⟨_, -, rfl⟩ := Option.map_eq_some_iff.mp hx
  obtain ⟨_, -, rfl⟩ := Option.map_eq_some_iff.mp hy
  exact below

theorem State.isGroup_iff (s : State) (id : Nat) :
    s.isGroup id = true ↔ ∃ e, s.talk.dest id = some e ∧ e.kind = .group := by
  simp [State.isGroup, Option.any_eq_true]

theorem LinkState.occupied_of_planEligible {st : LinkState} (h : st.planEligible = true) : st ≠ .free := by
  rintro rfl
  cases h

/-! ### The scans of offences 2 and 5 -/

/-- Two slots name one destination. -/
def sameDest (x y : Nat × Nat) : Bool := x.1 == y.1

/-- Two pack entries hold one upstream slot. -/
def sameUp (e f : Pack) : Bool := e.up.isSome && e.up == f.up

theorem sameUp_eq_false (e f : Pack) : sameUp e f = false ↔ e.up = none ∨ e.up ≠ f.up := by
  unfold sameUp
  cases e.up <;> simp

theorem repeatedIn_eq (seen l : List (Nat × Nat)) :
    repeatedIn seen l = (firstClash sameDest seen l).map fun x => .destRepeated x.1.2 x.2.2 x.2.1 := by
  induction l generalizing seen with
  | nil => rfl
  | cons x rest ih =>
    obtain ⟨d, slot⟩ := x
    show (match seen.find? (sameDest · (d, slot)) with
      | some x => some (Offence.destRepeated x.2 slot d)
      | none => repeatedIn (seen ++ [(d, slot)]) rest) = _
    rw [firstClash]
    cases seen.find? (sameDest · (d, slot)) with
    | some y => rfl
    | none => exact ih _

theorem sharedIn_eq (seen l : List Pack) :
    sharedIn seen l
      = (firstClash sameUp seen l).map fun x => .upShared (x.2.up.getD 0) x.1.handle x.2.handle := by
  induction l generalizing seen with
  | nil => rfl
  | cons e rest ih =>
    rw [firstClash]
    unfold sharedIn
    show (match e.up, seen.find? (sameUp · e) with
      | some u, some x => some (Offence.upShared u x.handle e.handle)
      | _, _ => sharedIn (seen ++ [e]) rest) = _
    cases found : seen.find? (sameUp · e) with
    | some y =>
      have clashes := List.find?_some found
      cases up : e.up with
      | some u => simp [up]
      | none =>
        have held : y.up.isSome = true ∧ y.up = none := by simpa [sameUp, up] using clashes
        rw [held.2] at held
        cases held.1
    | none =>
      cases e.up with
      | some u => exact ih _
      | none => exact ih _

/-! ### A plan without offence (R157, R161) -/

/-- What a plan without offence rests on: its slots name GROUP destinations, each once, its entries name BELTPACK
links in plan-eligible states, and no two of them hold one upstream slot. -/
structure State.Supports (s : State) (p : Plan) : Prop where
  groups : ∀ i d, p.down.get i none = some d → s.isGroup d = true
  slots : ∀ i j d, i < j → p.down.get i none = some d → p.down.get j none ≠ some d
  packs : ∀ e, e ∈ p.packs → (s.link e.handle).kind = some .beltpack
  eligible : ∀ e, e ∈ p.packs → (s.link e.handle).state.planEligible = true
  ups : p.packs.Pairwise fun e f => e.up = none ∨ e.up ≠ f.up

section

variable {s : State} {p : Plan}

theorem destKindFault_eq_none_iff :
    s.destKindFault p = none ↔ ∀ i d, p.down.get i none = some d → s.isGroup d = true := by
  simp only [State.destKindFault, Option.map_eq_none_iff, List.find?_eq_none, Prod.forall, Plan.mem_downs,
    Bool.not_eq_true', Bool.not_eq_false]
  exact ⟨fun all i d => all d i, fun all d i => all i d⟩

theorem repeatedIn_eq_none_iff :
    repeatedIn [] p.downs = none ↔ ∀ i j d, i < j → p.down.get i none = some d → p.down.get j none ≠ some d := by
  rw [repeatedIn_eq, Option.map_eq_none_iff, firstClash_eq_none_iff]
  constructor
  · rintro ⟨-, distinct⟩ i j d below low high
    have apart := rel_of_ascending p.downs_ascend distinct ((p.mem_downs d i).mpr low) ((p.mem_downs d j).mpr high)
      below
    simp [sameDest] at apart
  · refine fun distinct => ⟨(fun _ _ _ m => by cases m), p.downs_ascend.imp_of_mem fun {x y} hx hy below => ?_⟩
    rw [Plan.mem_downs] at hx hy
    refine beq_eq_false_iff_ne.mpr fun same => distinct x.2 y.2 y.1 below (same ▸ hx) hy

theorem packKindFault_eq_none_iff : s.packKindFault p = none ↔ ∀ e, e ∈ p.packs →
    (s.link e.handle).state ≠ .free ∧ (s.link e.handle).kind = some .beltpack := by
  simp [State.packKindFault]

theorem packStateFault_eq_none_iff : s.packStateFault p = none ↔ ∀ e, e ∈ p.packs →
    (s.link e.handle).state.planEligible = true := by
  simp [State.packStateFault]

theorem sharedIn_eq_none_iff :
    sharedIn [] p.packs = none ↔ p.packs.Pairwise fun e f => e.up = none ∨ e.up ≠ f.up := by
  rw [sharedIn_eq, Option.map_eq_none_iff, firstClash_eq_none_iff]
  simp only [sameUp_eq_false]
  exact and_iff_right fun _ _ _ m => by cases m

theorem offence_eq_none_iff : s.offence p = none ↔ s.Supports p := by
  simp only [State.offence, Option.orElse_eq_none, destKindFault_eq_none_iff,
    repeatedIn_eq_none_iff, packKindFault_eq_none_iff, packStateFault_eq_none_iff, sharedIn_eq_none_iff]
  constructor
  · rintro ⟨groups, slots, kinds, eligible, ups⟩
    exact ⟨groups, slots, fun e m => (kinds e m).2, eligible, ups⟩
  · rintro ⟨groups, slots, kinds, eligible, ups⟩
    exact ⟨groups, slots, fun e m => ⟨LinkState.occupied_of_planEligible (eligible e m), kinds e m⟩, eligible, ups⟩

/-! ### The offence named is the first (R161) -/

theorem slotsNameGroups_iff {n : Nat} :
    s.slotsNameGroups p n ↔ ∀ i d, i < n → p.down.get i none = some d → s.isGroup d = true := by
  simp only [State.slotsNameGroups, State.isGroup_iff]

theorem offends_destKind {x : Offence} (h : s.destKindFault p = some x) : s.offends p x := by
  obtain ⟨⟨d, i⟩, found, rfl⟩ := Option.map_eq_some_iff.mp h
  obtain ⟨own, m, first⟩ := find?_ascending p.downs_ascend found
  refine ⟨slotsNameGroups_iff.mpr fun j e below named => ?_, (p.mem_downs d i).mp m, fun e dest group => ?_⟩
  · simpa using first (e, j) ((p.mem_downs e j).mpr named) below
  · have isGroup := (s.isGroup_iff d).mpr ⟨e, dest, group⟩
    simp [isGroup] at own

theorem offends_destRepeated {x : Offence} (groups : s.destKindFault p = none)
    (h : repeatedIn [] p.downs = some x) : s.offends p x := by
  rw [repeatedIn_eq] at h
  obtain ⟨⟨⟨d, lower⟩, e, slot⟩, found, rfl⟩ := Option.map_eq_some_iff.mp h
  obtain ⟨low, high, below, same, first⟩ := firstClash_ascending p.downs_ascend found
  cases beq_iff_eq.mp same
  refine ⟨fun n => slotsNameGroups_iff.mpr fun i d _ => destKindFault_eq_none_iff.mp groups i d, ?_, below,
    (p.mem_downs _ _).mp low, (p.mem_downs _ _).mp high⟩
  intro i j f below under named again
  have apart := first (f, i) (f, j) ((p.mem_downs f i).mpr named) ((p.mem_downs f j).mpr again) below under
  simp [sameDest] at apart

theorem offends_packKind {x : Offence} (ordered : p.ordered) (groups : s.destKindFault p = none)
    (slots : repeatedIn [] p.downs = none) (h : s.packKindFault p = some x) : s.offends p x := by
  obtain ⟨e, found, rfl⟩ := Option.map_eq_some_iff.mp h
  obtain ⟨own, m, first⟩ := find?_ascending ordered found
  refine ⟨fun n => ⟨slotsNameGroups_iff.mpr fun i d _ => destKindFault_eq_none_iff.mp groups i d,
    fun i j d below _ => repeatedIn_eq_none_iff.mp slots i j d below⟩, fun f mf below => ?_, ⟨e, m, rfl⟩, ?_⟩
  · simpa using first f mf below
  · simpa using own

theorem offends_packState {x : Offence} (ordered : p.ordered) (groups : s.destKindFault p = none)
    (slots : repeatedIn [] p.downs = none) (kinds : s.packKindFault p = none)
    (h : s.packStateFault p = some x) : s.offends p x := by
  obtain ⟨e, found, rfl⟩ := Option.map_eq_some_iff.mp h
  obtain ⟨own, m, first⟩ := find?_ascending ordered found
  refine ⟨fun n => ⟨slotsNameGroups_iff.mpr fun i d _ => destKindFault_eq_none_iff.mp groups i d,
    fun i j d below _ => repeatedIn_eq_none_iff.mp slots i j d below,
    fun f mf _ => packKindFault_eq_none_iff.mp kinds f mf⟩, fun f mf below => ?_, ⟨e, m, rfl⟩, rfl, ?_⟩
  · simpa using first f mf below
  · simpa using own

theorem offends_upShared {x : Offence} (ordered : p.ordered) (groups : s.destKindFault p = none)
    (slots : repeatedIn [] p.downs = none) (kinds : s.packKindFault p = none)
    (states : s.packStateFault p = none) (h : sharedIn [] p.packs = some x) : s.offends p x := by
  rw [sharedIn_eq] at h
  obtain ⟨⟨e, f⟩, found, rfl⟩ := Option.map_eq_some_iff.mp h
  obtain ⟨low, high, below, same, first⟩ := firstClash_ascending ordered found
  obtain ⟨held, same⟩ : e.up.isSome = true ∧ e.up = f.up := by simpa [sameUp] using same
  obtain ⟨u, up⟩ := Option.isSome_iff_exists.mp held
  refine ⟨fun n => ⟨slotsNameGroups_iff.mpr fun i d _ => destKindFault_eq_none_iff.mp groups i d,
    fun i j d below _ => repeatedIn_eq_none_iff.mp slots i j d below,
    fun f mf _ => packKindFault_eq_none_iff.mp kinds f mf,
    fun f mf _ => packStateFault_eq_none_iff.mp states f mf⟩, fun a b ha hb below under => ?_, below,
    e, f, low, high, rfl, rfl, ?_, ?_⟩
  · exact (sameUp_eq_false a b).mp (first a b ha hb below under)
  all_goals simp [← same, up]

/-- The offence COMMIT names stands in the plan, and none stands before it in the order of R161. -/
theorem offends_of_offence {x : Offence} (ordered : p.ordered) (h : s.offence p = some x) : s.offends p x := by
  simp only [State.offence, Option.orElse_eq_some] at h
  rcases h with a | ⟨groups, b | ⟨slots, c | ⟨kinds, d | ⟨states, e⟩⟩⟩⟩
  · exact offends_destKind a
  · exact offends_destRepeated groups b
  · exact offends_packKind ordered groups slots c
  · exact offends_packState ordered groups slots kinds d
  · exact offends_upShared ordered groups slots kinds states e

end

end Sys2Proof.Machine
end

section
/-! COMMIT and DISCARD PLAN (O50): R161, R164. -/

namespace Sys2Proof.Machine

open Sys2Proof

/-! ### The plan state that each request finds (R161, R164) -/

section

variable {s : State}

theorem ownCommit_busy (waits : s.plans.state = .commitWait) : ownCommit () s = s.refuse .busy := if_pos waits

theorem ownCommit_accepted (idle : s.plans.state = .idle) (none : s.offence s.plans.pending = none) :
    ownCommit () s
      = (s.setPlans { s.plans with state := .commitWait }).okWith (.planNumber (s.plans.number + 1)) := by
  simp [ownCommit, idle, none]

theorem ownCommit_conflict (idle : s.plans.state = .idle) {x : Offence} (h : s.offence s.plans.pending = some x) :
    ownCommit () s = s.refuseWith .conflict (.offence x) := by
  simp [ownCommit, idle, h]

/-- A frame mark that finds no commit waiting (R162). -/
theorem frameMark_idle (idle : s.plans.state = .idle) : exec .frameMark s = .next s := by
  have mark : exec .frameMark s
      = .next (s.outside fun s => if s.plans.state = .commitWait then State.finish s s.applyPlan else s) := rfl
  rw [mark]
  simp [State.outside, idle]

end

/-- A plan without offence names GROUP destinations, each in one slot, and eligible BELTPACK links, no two of them
in one upstream slot (R157). -/
theorem State.Supports.names {s : State} {p : Plan} (h : s.Supports p) :
    (∀ i d, p.down.get i none = some d →
      (∃ e, s.talk.dest d = some e ∧ e.kind = .group) ∧ ∀ k, p.down.get k none = some d → k = i)
    ∧ (∀ e, e ∈ p.packs →
        (s.link e.handle).kind = some .beltpack ∧ (s.link e.handle).state.planEligible = true)
    ∧ p.packs.Pairwise fun e f => e.up = none ∨ e.up ≠ f.up := by
  refine ⟨fun i d named => ⟨(s.isGroup_iff d).mp (h.groups i d named), fun k again => ?_⟩,
    fun e m => ⟨h.packs e m, h.eligible e m⟩, h.ups⟩
  rcases Nat.lt_trichotomy k i with below | same | above
  · exact absurd named (h.slots k i d below again)
  · exact same
  · exact absurd again (h.slots i k d above named)

/-- Settles O50: COMMIT by what it finds, the offence named by the scans of R161, and DISCARD PLAN with the frame
mark that follows it. -/
theorem commitAndDiscardPlan : Obligations.CommitAndDiscardPlan := by
  refine ⟨fun s accepts => ?_, fun s accepts => ?_⟩
  · have run := take_accepts accepts 45 false () ownCommit
    refine ⟨fun waits => ?_, fun idle none => ?_, fun x idle offence => ?_,
      fun x ordered offence => offends_of_offence ordered offence,
      fun none => (offence_eq_none_iff.mp none).names⟩
    · rw [ownCommit_busy waits] at run
      exact congrArg Host.Outcome.next run
    · rw [ownCommit_accepted idle none] at run
      exact congrArg Host.Outcome.next run
    · rw [ownCommit_conflict idle offence] at run
      exact congrArg Host.Outcome.next run
  · have run := congrArg (Host.Outcome.next (φ := Fault) (ρ := Refusal)) (take_accepts accepts 46 false () ownDiscardPlan)
    refine ⟨run, fun t ends => ?_⟩
    cases ends.symm.trans run
    exact frameMark_idle rfl

end Sys2Proof.Machine
end

section
/-! STAGE DOWN, STAGE LISTEN and STAGE UP (O49): R157, R159, R160. -/

namespace Sys2Proof.Machine

open Sys2Proof

/-! ### Pack entries (R157) -/

theorem mem_insertPack (e f : Pack) (l : List Pack) : f ∈ insertPack e l ↔ f = e ∨ f ∈ l := by
  induction l with
  | nil => simp [insertPack]
  | cons x xs ih =>
    unfold insertPack
    split
    · exact List.mem_cons
    · simp only [List.mem_cons, ih]
      exact or_left_comm

theorem Plan.mem_without (p : Plan) (h : Nat) (f : Pack) : f ∈ (p.without h).packs ↔ f ∈ p.packs ∧ f.handle ≠ h := by
  simp [Plan.without]

theorem Pack.empty_eq_false_iff (e : Pack) : e.empty = false ↔ e.listen ≠ 0 ∨ e.up.isSome = true := by
  cases up : e.up <;> simp [Pack.empty, up]

/-- The entry of a handle is the one set, where it says something; the entries of other handles stay. -/
theorem Plan.mem_setPack (p : Plan) (e f : Pack) :
    f ∈ (p.setPack e).packs
      ↔ (f = e ∧ (e.listen ≠ 0 ∨ e.up.isSome = true)) ∨ f ∈ p.packs ∧ f.handle ≠ e.handle := by
  rw [← Pack.empty_eq_false_iff]
  unfold Plan.setPack
  split
  · rename_i empty
    simp [Plan.mem_without, empty]
  · rename_i said
    simp [mem_insertPack, Plan.mem_without, said]

theorem Plan.setPack_down (p : Plan) (e : Pack) : (p.setPack e).down = p.down := by
  unfold Plan.setPack
  split <;> rfl

theorem Plan.pack_handle (p : Plan) (h : Nat) : (p.pack h).handle = h := by
  unfold Plan.pack
  cases found : p.packs.find? (·.handle == h) with
  | none => rfl
  | some e => simpa using List.find?_some found

/-- What the replacement of the entry of one handle does to a plan. -/
theorem Plan.setPack_entries (p : Plan) (h : Nat) (m : BitVec 12) (u : Option Nat) :
    (∀ f, f.handle ≠ h → (f ∈ (p.setPack ⟨h, m, u⟩).packs ↔ f ∈ p.packs))
      ∧ ∀ f, f.handle = h →
        (f ∈ (p.setPack ⟨h, m, u⟩).packs ↔ f = ⟨h, m, u⟩ ∧ (f.listen ≠ 0 ∨ f.up.isSome = true)) := by
  refine ⟨fun f other => ?_, fun f same => ?_⟩
  · have apart : f ≠ ⟨h, m, u⟩ := fun c => other (congrArg Pack.handle c)
    simp [Plan.mem_setPack, other, apart]
  · rw [Plan.mem_setPack, or_iff_left fun c => c.2 same]
    refine and_congr_right fun c => ?_
    rw [c]

/-! ### What staging decides (R159, R160) -/

section

variable {s : State} {h : Nat} {f : Pack → Pack}

theorem ownStageDown_idle {slot d : Nat} (le : slot ≤ 11) (dest : d ≤ 31 ∨ d = 255) (idle : s.plans.state = .idle) :
    ownStageDown ⟨slot, d⟩ s = (s.setPendingPlan (s.plans.pending.setDown slot (optByte d))).ok := by
  have range : ¬(11 < slot ∨ 31 < d ∧ d ≠ 255) := by omega
  simp [ownStageDown, range, idle]

theorem ownStageDown_busy {slot d : Nat} (le : slot ≤ 11) (dest : d ≤ 31 ∨ d = 255)
    (waits : s.plans.state = .commitWait) : ownStageDown ⟨slot, d⟩ s = s.refuse .busy := by
  have range : ¬(11 < slot ∨ 31 < d ∧ d ≠ 255) := by omega
  simp [ownStageDown, range, waits]

theorem optUpOk_iff (u : Nat) : optUpOk u = true ↔ u ≤ 9 ∨ u = 255 := by simp [optUpOk]

variable (le : h ≤ 159) (occupied : (s.link h).state ≠ .free) (kind : (s.link h).kind = some .beltpack)

include le occupied kind

theorem stagePack_busy (waits : s.plans.state = .commitWait) : s.stagePack h true f = s.refuse .busy := by
  simp [State.stagePack, (handleOk_iff h).mpr le, occupied, kind, waits]

theorem stagePack_idle (idle : s.plans.state = .idle) :
    s.stagePack h true f = (s.setPendingPlan (s.plans.pending.setPack (f (s.plans.pending.pack h)))).ok := by
  simp [State.stagePack, (handleOk_iff h).mpr le, occupied, kind, idle]

theorem ownStageListen_idle (idle : s.plans.state = .idle) (m : BitVec 16) :
    ownStageListen ⟨h, m⟩ s
      = (s.setPendingPlan (s.plans.pending.setPack ⟨h, m.setWidth 12, (s.plans.pending.pack h).up⟩)).ok := by
  rw [ownStageListen, stagePack_idle le occupied kind idle, Plan.pack_handle]
  rfl

theorem ownStageUp_idle (idle : s.plans.state = .idle) {u : Nat} (up : u ≤ 9 ∨ u = 255) :
    ownStageUp ⟨h, u⟩ s = (s.setPendingPlan
      (s.plans.pending.setPack ⟨h, (s.plans.pending.pack h).listen, if u = 255 then none else some u⟩)).ok := by
  rw [ownStageUp, (optUpOk_iff u).mpr up, stagePack_idle le occupied kind idle, Plan.pack_handle]
  rfl

end

/-- Settles O49: what the three requests decide, and what the replacement of one entry does to a plan. -/
theorem stagingEditsPendingPlan : Obligations.StagingEditsPendingPlan := by
  refine ⟨fun slot d s accepts le dest => ⟨fun idle => ?_, fun waits => ?_⟩,
    fun h u m s accepts le occupied kind up => ⟨fun waits => ⟨?_, ?_⟩, fun idle => ?_⟩⟩
  · have run := take_accepts accepts 42 false ⟨slot, d⟩ ownStageDown
    rw [ownStageDown_idle le dest idle] at run
    exact congrArg Host.Outcome.next run
  · exact congrArg Host.Outcome.next (take_refuse accepts (ownStageDown_busy le dest waits) 42)
  · exact congrArg Host.Outcome.next
      (take_refuse accepts (own := ownStageListen) (a := ⟨h, m⟩) (stagePack_busy le occupied kind waits) 43)
  · have busy : ownStageUp ⟨h, u⟩ s = s.refuse .busy := by
      rw [ownStageUp, (optUpOk_iff u).mpr up, stagePack_busy le occupied kind waits]
    exact congrArg Host.Outcome.next (take_refuse accepts busy 44)
  · have listen := take_accepts accepts 43 false ⟨h, m⟩ ownStageListen
    have ups := take_accepts accepts 44 false ⟨h, u⟩ ownStageUp
    rw [ownStageListen_idle le occupied kind idle] at listen
    rw [ownStageUp_idle le occupied kind idle up] at ups
    exact ⟨_, _, congrArg Host.Outcome.next listen, congrArg Host.Outcome.next ups, Plan.setPack_down _ _,
      Plan.setPack_down _ _,
      fun e other => ⟨(Plan.setPack_entries _ h _ _).1 e other, (Plan.setPack_entries _ h _ _).1 e other⟩,
      (Plan.setPack_entries _ h _ _).2, (Plan.setPack_entries _ h _ _).2⟩

end Sys2Proof.Machine
end

section
/-! The frame mark that applies a waiting commit (O51): R148, R162, R163. -/

namespace Sys2Proof.Machine

open Sys2Proof

/-! ### PLAN_APPLIED (R162) -/

theorem Plan.downs_length (p : Plan) : p.downs.length = p.down.rows.countP (·.isSome) := by
  simp [Plan.downs_eq, List.length_filterMap_eq_countP, p.down.countP_rows none]

theorem appliedNotice_applied (ps : Plans) :
    ps.applied.appliedNotice = .planApplied (ps.number + 1) (ps.pending.down.rows.countP (·.isSome))
      (ps.pending.packs.countP fun e => e.up.isSome) := by
  rw [← Plan.downs_length, List.countP_eq_length_filter]
  rfl

/-! ### The application (R162, R163) -/

/-- The Frame Plan's part of an application: the plans, plan owed and the notice. -/
def State.planApplied (s : State) : State :=
  ((s.setPlans s.plans.applied).owePlan).notify s.plans.applied.appliedNotice

/-- The keys of the packs that an application takes their upstream slot from have ended. -/
def State.packsEnded (s : State) : State :=
  s.planApplied.setTalk (s.talk.endPacks s.now (lostUp s.plans.active s.plans.pending))

theorem applyPlan_eq (s : State) : s.applyPlan = s.packsEnded.restandAll := rfl

/-- What an application leaves of the part, beside the two tables of the Talk Arbiter. -/
theorem applyPlan_fields (s : State) : s.applyPlan.plans = s.plans.applied
    ∧ s.applyPlan.port = s.port.queue s.plans.applied.appliedNotice ∧ s.applyPlan.radio.planOwed = true
    ∧ s.applyPlan.links = s.links ∧ s.applyPlan.engine = s.engine ∧ s.applyPlan.pool = s.pool
    ∧ SameOutside s s.applyPlan := by
  have outside : SameOutside s s.packsEnded.restandAll :=
    SameOutside.trans (t := s.packsEnded) ⟨rfl, rfl, rfl, rfl, rfl⟩ (sameOutside_restandAll _)
  rw [State.restandAll_eq] at outside
  rw [applyPlan_eq, State.restandAll_eq, State.setTalk_plans, State.setTalk_port, State.setTalk_radio,
    State.setTalk_links, State.setTalk_engine, State.setTalk_pool]
  exact ⟨rfl, rfl, rfl, rfl, rfl, rfl, outside⟩

theorem origin_applyPlan (s : State) (k : Nat) : s.applyPlan.talk.origin k = s.talk.origin k :=
  (origin_restandAll s.packsEnded k).trans (s.talk.origin_endPacks s.now _ k)

/-- A key of a pack that has lost its upstream slot neither waits nor talks. -/
theorem keys_applyPlan {s : State} (sound : s.talk.sound) {k : Nat} {x : Key}
    (key : s.applyPlan.talk.key k = some x) (pack : x.ofPack (lostUp s.plans.active s.plans.pending) = true) :
    x.state ≠ .waiting ∧ x.state ≠ .talking := by
  have origin := origin_applyPlan s k
  rw [Talk.origin, key, Option.map_some, Talk.origin] at origin
  obtain ⟨y, own, same⟩ := Option.map_eq_some_iff.mp origin.symm
  have pack' : y.ofPack (lostUp s.plans.active s.plans.pending) = true := by
    unfold Key.ofPack at pack ⊢
    rwa [same]
  have ended : s.packsEnded.talk.Placed k y.silenced := (sound.placed own).endPacks s.now pack'
  have stood := placed_restandAll ended y.silenced_state
  cases key.symm.trans stood.key
  exact y.silenced_state

/-- A GROUP destination is routed where the new plan names it. -/
theorem routed_applyPlan {s : State} {id : Nat} {d : Dest} (dest : s.applyPlan.talk.dest id = some d)
    (group : d.kind = .group) : d.routed = s.plans.pending.names id := by
  obtain ⟨routed, -⟩ := standing_restandAll s.packsEnded id d dest
  have names : s.applyPlan.routed id d = s.applyPlan.plans.active.names id := by
    unfold State.routed
    rw [group]
  rw [(applyPlan_fields s).1] at names
  exact routed.trans names

/-! ### The frame mark (R162) -/

theorem frameMark_applies {s : State} (live : s.live) (waits : s.plans.state = .commitWait) :
    exec .frameMark s = .next (State.finish s s.applyPlan) :=
  congrArg Host.Outcome.next ((outside_live live _).trans (if_pos waits))

/-- Settles O51: the application at the end of its event, and the mark that finds no commit waiting. -/
theorem frameMarkApplies : Obligations.FrameMarkApplies := by
  refine fun s live => ⟨frameMark_idle, fun waits q sound => ⟨_, frameMark_applies live waits, ?_⟩⟩
  obtain ⟨plans, port, owed, links, engine, pool, outside⟩ := applyPlan_fields s
  have quiet : s.applyPlan.quiet := quiet_congr engine pool q
  have ends := sameButEnd_finish s quiet
  have sent := finish_planOwed s quiet owed
  rw [ends.plans, plans] at sent
  rw [appliedNotice_applied] at port
  refine ⟨ends.plans.trans plans, ends.port.trans port, sent, fun k x h b key origin held lost => ?_,
    fun id d _ dest group => ?_, fun h => ?_, ends.queue.trans (congrArg Engine.queue engine),
    (outside.trans ends.outside).same⟩
  · rw [ends.talk] at key
    exact keys_applyPlan sound key (by simp [Key.ofPack, origin, lostUp, held, lost])
  · rw [ends.talk] at dest
    exact routed_applyPlan dest group
  · rw [ends.lasting h, State.link, links, State.link]

end Sys2Proof.Machine
end

section
/-! The kinds of the destinations: no operation of the Talk Arbiter on its lists changes one (R135). -/

namespace Sys2Proof.Machine

open Sys2Proof

/-- The kind of a destination; an undefined entry has none. -/
def Talk.kind (t : Talk) (id : Nat) : Option DestKind := (t.dest id).map Dest.kind

/-- A talk table in which every destination is of the kind it is in another one. -/
def Talk.SameKinds (t u : Talk) : Prop := ∀ id, u.kind id = t.kind id

theorem Talk.SameKinds.refl (t : Talk) : t.SameKinds t := fun _ => rfl

theorem Talk.SameKinds.trans {t u v : Talk} (a : t.SameKinds u) (b : u.SameKinds v) : t.SameKinds v :=
  fun id => (b id).trans (a id)

theorem Talk.sameKinds_of_settings {t u : Talk}
    (h : ∀ id, (u.dest id).map Dest.settings = (t.dest id).map Dest.settings) : t.SameKinds u := fun id => by
  have kinds := congrArg (Option.map Dest.kind) (h id)
  rwa [Option.map_map, Option.map_map] at kinds

/-! ### Entries written -/

theorem Talk.sameKinds_setKey (t : Talk) (k : Nat) (x : Option Key) : t.SameKinds (t.setKey k x) := .refl t

theorem Talk.sameKinds_setDest {t : Talk} {id : Nat} {d e : Dest} (old : t.dest id = some d)
    (same : e.kind = d.kind) : t.SameKinds (t.setDest id (some e)) := fun i => by
  unfold Talk.kind
  by_cases own : i = id
  · rw [own, Talk.dest_setDest_same _ _ (Talk.dest_lt old), old, Option.map_some, Option.map_some, same]
  · rw [Talk.dest_setDest_other _ _ own]

theorem Talk.sameKinds_onKey (t : Talk) (k : Nat) (f : Key → Key) : t.SameKinds (t.onKey k f) := fun id => by
  rw [Talk.kind, Talk.dest_onKey, Talk.kind]

theorem Talk.sameKinds_onDest (t : Talk) (id : Nat) {f : Dest → Dest} (same : ∀ d, (f d).kind = d.kind) :
    t.SameKinds (t.onDest id f) := by
  unfold Talk.onDest
  split
  · exact Talk.sameKinds_setDest ‹_› (same _)
  · exact .refl t

/-! ### Grants, waits and ends (R143 to R146) -/

/-- An operation that keeps the kinds each time keeps them over a list. -/
theorem sameKinds_foldl {op : Talk → Nat → Talk} (same : ∀ t i, Talk.SameKinds t (op t i)) (is : List Nat) (t : Talk) :
    t.SameKinds (is.foldl op t) := by
  induction is generalizing t with
  | nil => exact .refl t
  | cons i is ih => exact (same t i).trans (ih _)

theorem Talk.sameKinds_grant (t : Talk) (now id k : Nat) : t.SameKinds (t.grant now id k) := by
  unfold Talk.grant
  split
  · exact .refl t
  · rename_i d old
    exact (t.sameKinds_onKey k _).trans (Talk.sameKinds_setDest ((t.dest_onKey k _ id).trans old) rfl)

theorem Talk.sameKinds_wait (t : Talk) (id k : Nat) : t.SameKinds (t.wait id k) :=
  Talk.sameKinds_of_settings (t.wait_settings id k)

theorem Talk.sameKinds_refill (t : Talk) (now id : Nat) : t.SameKinds (t.refill now id) :=
  Talk.sameKinds_of_settings (t.refill_settings now id)

theorem Dest.talkEnds_kind (d : Dest) (level k : Nat) : (d.talkEnds level k).kind = d.kind := by
  unfold Dest.talkEnds
  simp only
  split <;> rfl

theorem Talk.sameKinds_endKey (t : Talk) (now k : Nat) : t.SameKinds (t.endKey now k) := by
  have idle : t.SameKinds (t.idleKey k) := t.sameKinds_onKey k _
  unfold Talk.endKey
  split
  · exact .refl t
  · split
    · rw [Talk.endTalk_eq]
      exact (idle.trans (Talk.sameKinds_onDest _ _ fun d => d.talkEnds_kind _ _)).trans
        (Talk.sameKinds_refill _ _ _)
    · exact idle.trans (Talk.sameKinds_onDest _ _ fun _ => rfl)
    · exact .refl t
    · exact .refl t

theorem Talk.sameKinds_endPacks (t : Talk) (now : Nat) (lost : Nat → Bool) : t.SameKinds (t.endPacks now lost) := by
  have ends : ∀ t k, Talk.SameKinds t (t.endKey now k) := fun t k => t.sameKinds_endKey now k
  exact (sameKinds_foldl ends _ t).trans (sameKinds_foldl ends _ _)

/-! ### Requests (R144, R145) -/

theorem Talk.sameKinds_place (t : Talk) (now id k : Nat) (d : Dest) : t.SameKinds (t.place now id k d) := by
  unfold Talk.place
  split
  · split
    · exact t.sameKinds_grant now id k
    · split
      · exact (t.sameKinds_wait id _).trans (Talk.sameKinds_grant _ now id k)
      · exact t.sameKinds_wait id k
  · exact t.sameKinds_wait id k

theorem Talk.sameKinds_request (t : Talk) (now k : Nat) : t.SameKinds (t.request now k) := by
  unfold Talk.request
  split
  · exact .refl t
  · split
    · exact .refl t
    · rename_i d old
      refine Talk.SameKinds.trans ?_ (Talk.sameKinds_place _ now _ k _)
      exact Talk.sameKinds_setDest old rfl

theorem Talk.sameKinds_keyEventAt (t : Talk) (now k : Nat) (press : Bool) :
    t.SameKinds (t.keyEventAt now k press) := by
  unfold Talk.keyEventAt
  split
  · exact .refl t
  · split
    · exact t.sameKinds_request now k
    · exact t.sameKinds_endKey now k
    · exact .refl t

/-! ### Standing, freed links and CLEAR TALK (R147 to R149, R153) -/

theorem Talk.sameKinds_restand (t : Talk) (now id : Nat) (routed restricted : Bool) :
    t.SameKinds (t.restand now id routed restricted) := by
  unfold Talk.restand
  split
  · exact .refl t
  · rename_i d old
    split
    · exact .refl t
    · refine Talk.SameKinds.trans ?_ (Talk.sameKinds_refill _ now id)
      refine Talk.SameKinds.trans ?_ (sameKinds_foldl (fun t k => t.sameKinds_wait id k) _ _)
      exact Talk.sameKinds_setDest old rfl

theorem sameKinds_restandAll (s : State) : s.talk.SameKinds s.restandAll.talk := by
  rw [State.restandAll_eq, State.setTalk_talk]
  refine sameKinds_foldl (fun t id => ?_) _ _
  unfold State.restandIn
  split
  · exact .refl t
  · exact t.sameKinds_restand _ _ _ _

theorem Talk.sameKinds_freed (t : Talk) (now h : Nat) : t.SameKinds ((t.disablePack now h).dropLink h) := by
  refine (t.sameKinds_endPacks now (· == h)).trans fun id => ?_
  rw [Talk.kind, Talk.dest_dropLink, Option.map_map]
  rfl

theorem Talk.sameKinds_cleared (t : Talk) : t.SameKinds t.cleared := fun id => by
  rw [Talk.kind, Talk.dest, Talk.cleared, Tab.get_mapIdx _ _ _ none, Talk.kind, Talk.dest]
  split
  · rw [Option.map_map]
    rfl
  · rename_i out
    rw [Tab.get_out _ _ (Nat.le_of_not_lt out)]

/-! ### Definitions of keys, and SET LAST (R132, R133, R151) -/

theorem Talk.sameKinds_define (t : Talk) (k : Nat) (x : Key) : t.SameKinds (t.define k x) := by
  have join : ∀ u : Talk, u.SameKinds (u.joinRing k x) := fun u => u.sameKinds_onDest _ fun _ => rfl
  unfold Talk.define
  split
  · exact (t.sameKinds_setKey k _).trans (join _)
  · rename_i old _
    have leave : t.SameKinds (t.leaveRing k old) := t.sameKinds_onDest _ fun _ => rfl
    split
    · exact t.sameKinds_setKey k _
    · exact (leave.trans (Talk.sameKinds_setKey _ k _)).trans (join _)

theorem Talk.sameKinds_delete (t : Talk) (k : Nat) (x : Key) : t.SameKinds (t.delete k x) :=
  (t.sameKinds_onDest x.dest fun d => show (d.leaveRing x.level k).kind = d.kind from rfl).trans
    (Talk.sameKinds_setKey _ k none)

theorem Talk.sameKinds_setLast (t : Talk) (k : Nat) (x : Key) : t.SameKinds (t.setLast k x) :=
  t.sameKinds_onDest x.dest fun d => by
    split <;> rfl

end Sys2Proof.Machine
end

section
/-! What the plans rest on, through the work of an event: the kinds of the destinations they name, and the BELTPACK
links in plan-eligible states (R22, R157, R161). -/

namespace Sys2Proof.Machine

open Sys2Proof

/-! ### The relation -/

/-- A link that a plan without offence may name (R161, offences 3 and 4). -/
def Link.plannable (l : Link) : Prop := l.kind = some .beltpack ∧ l.state.planEligible = true

/-- From `s` to `t` the plans stay as they are, and nothing that they rest on is taken away. -/
structure Upholds (s t : State) : Prop where
  plans : t.plans = s.plans
  kinds : s.talk.SameKinds t.talk
  links : ∀ h, (s.link h).plannable → (t.link h).plannable

theorem Upholds.refl (s : State) : Upholds s s := ⟨rfl, .refl _, fun _ p => p⟩

theorem Upholds.trans {s t u : State} (a : Upholds s t) (b : Upholds t u) : Upholds s u :=
  ⟨b.plans.trans a.plans, a.kinds.trans b.kinds, fun h p => b.links h (a.links h p)⟩

/-- Work beside the links, the plans and the Talk Arbiter. -/
theorem upholds_beside {s t : State} (links : t.links = s.links) (talk : t.talk = s.talk)
    (plans : t.plans = s.plans) : Upholds s t :=
  ⟨plans, fun id => by rw [talk], fun h p => by rwa [State.link, links]⟩

theorem upholds_setTalk {s : State} {x : Talk} (kinds : s.talk.SameKinds x) : Upholds s (s.setTalk x) :=
  ⟨rfl, kinds, fun _ p => p⟩

theorem upholds_setLink {s : State} {h : Nat} {l : Link} (keeps : (s.link h).plannable → l.plannable) :
    Upholds s (s.setLink h l) := by
  refine ⟨rfl, .refl _, fun g p => ?_⟩
  rw [State.link_setLink]
  split
  · rename_i own
    exact keeps (own.1 ▸ p)
  · exact p

/-- Every record changed by `f`. -/
theorem upholds_mapLinks {s : State} {f : Nat → Link → Link} (keeps : ∀ h l, Link.plannable l → (f h l).plannable) :
    Upholds s (s.setLinks (s.links.mapIdx f)) := by
  refine ⟨rfl, .refl _, fun h p => ?_⟩
  have link : (s.setLinks (s.links.mapIdx f)).link h = if h < 160 then f h (s.link h) else Link.free :=
    Tab.get_mapIdx _ _ _ Link.free _
  rw [link]
  split
  · exact keeps h _ p
  · rename_i out
    rwa [s.link_out (Nat.le_of_not_lt out)] at p

theorem upholds_restandAll (s : State) : Upholds s s.restandAll := by
  refine ⟨(restandAll_plans s).1, sameKinds_restandAll s, fun h p => ?_⟩
  rwa [State.link, State.restandAll_eq, State.setTalk_links]

theorem Upholds.restandAll {s t : State} (a : Upholds s t) : Upholds s t.restandAll :=
  a.trans (upholds_restandAll t)

theorem Upholds.notify {s t : State} (a : Upholds s t) (n : Notice) : Upholds s (t.notify n) :=
  a.trans (upholds_beside rfl rfl rfl)

theorem upholds_restandOne (s : State) (id : Nat) : Upholds s (s.restandOne id) := by
  unfold State.restandOne
  split
  · exact .refl s
  · exact upholds_setTalk (s.talk.sameKinds_restand _ _ _ _)

theorem upholds_evalLowPool (s : State) : Upholds s s.evalLowPool := by
  unfold State.evalLowPool
  split
  · exact upholds_beside rfl rfl rfl
  · split
    · exact upholds_beside rfl rfl rfl
    · exact .refl s

theorem Upholds.lowPoolSince {s t : State} (a : Upholds s t) (n : Nat) : Upholds s (t.lowPoolSince n) :=
  have same := sameButAlert_lowPoolSince n t
  a.trans (upholds_beside same.links same.talk same.plans)

/-! ### Links (R66 to R73, R88, R106) -/

theorem Link.not_plannable {l : Link} (h : l.state.planEligible = false) : ¬l.plannable := fun p =>
  Bool.false_ne_true (h.symm.trans p.2)

theorem upholds_enterFree {s : State} {h : Nat} (departed : (s.link h).state.planEligible = false) :
    Upholds s (s.enterFree h) := by
  have cleared : Upholds s (s.setLink h Link.free) := upholds_setLink fun p => absurd p (Link.not_plannable departed)
  have freed : Upholds (s.setLink h Link.free) (s.freed h) := ⟨rfl, s.talk.sameKinds_freed s.now h, fun _ p => p⟩
  exact (cleared.trans freed).restandAll

theorem Link.plannable_granted (l : Link) (f : Nat) (onAir : Bool) (p : l.plannable) :
    (l.granted f onAir).plannable := by
  unfold Link.granted
  split <;> exact ⟨p.1, rfl⟩

theorem upholds_enterReferred {s : State} {h : Nat} {l : Link} (kind : l.kind = (s.link h).kind) (why : Referral) :
    Upholds s (s.enterReferred h l why) := by
  refine Upholds.notify (upholds_setLink fun p => ?_) _
  exact ⟨kind.trans p.1, rfl⟩

theorem upholds_deliver (s : State) (j : Job) (v : Verdict) : Upholds s (s.deliver j v) := by
  unfold State.deliver
  simp only
  split
  · rename_i checking
    have departed : (s.link j.handle).state.planEligible = false := by rw [checking]; rfl
    cases v with
    | pass => exact (upholds_setLink fun p => absurd p (Link.not_plannable departed)).restandAll.notify _
    | fail | noSpare => exact (upholds_enterFree departed).notify _
  · have back : Upholds s (s.setLink j.handle (s.link j.handle).backActive) := upholds_setLink fun p => ⟨p.1, rfl⟩
    split
    · refine Upholds.notify (upholds_setLink fun p => ?_) _
      exact ⟨p.1, rfl⟩
    · cases v with
      | pass => exact (upholds_setLink (Link.plannable_granted _ _ _)).notify _
      | fail => exact back.notify _
      | noSpare n =>
        simp only [State.retuneVerdict]
        split
        · exact upholds_enterReferred rfl _
        · exact back.notify _
  · exact .refl s

/-! ### Jobs, trials and sweep units (R44, R60, R61) -/

theorem Upholds.completeJob {s t : State} (a : Upholds s t) (j : Job) (v : Verdict) (n : Nat) :
    Upholds s (t.completeJob j v n) := by
  have dropped : Upholds s t.dropHead := a.trans (upholds_beside rfl rfl rfl)
  have delivered := dropped.trans (upholds_deliver t.dropHead j v)
  unfold State.completeJob
  split
  · exact dropped
  · simp only
    refine Upholds.lowPoolSince ?_ n
    split
    · exact delivered.trans (upholds_beside rfl rfl rfl)
    · exact delivered

theorem upholds_checkCompletes (s : State) : Upholds s s.checkCompletes := by
  unfold State.checkCompletes
  split
  · split
    · exact Upholds.completeJob (.refl s) _ _ _
    · exact .refl s
  · exact .refl s

theorem upholds_trialFails (s : State) (j : Job) (occ : List Party) (slot : Nat) (sp : Spare) (failures : Nat) :
    Upholds s (s.trialFails j occ slot sp failures) := by
  have spoiled : Upholds s (s.setPool (s.pool.setSlot slot (some { sp.spoiled with inUse := .none }))) :=
    upholds_beside rfl rfl rfl
  unfold State.trialFails
  simp only
  split
  · exact spoiled.completeJob _ _ _
  · split
    · exact spoiled.completeJob _ _ _
    · refine Upholds.lowPoolSince ?_ _
      exact upholds_beside rfl rfl rfl

theorem upholds_trialEnds (s : State) : Upholds s s.trialEnds := by
  unfold State.trialEnds
  split
  · split
    · exact .refl s
    · split
      · exact upholds_beside rfl rfl rfl
      · split
        · refine Upholds.completeJob ?_ _ _ _
          exact upholds_beside rfl rfl rfl
        · exact upholds_trialFails _ _ _ _ _ _
  · exact .refl s

theorem upholds_sweepCompletes (s : State) : Upholds s s.sweepCompletes := by
  unfold State.sweepCompletes
  split
  · simp only
    split
    · split
      · refine Upholds.lowPoolSince ?_ _
        exact upholds_beside rfl rfl rfl
      · exact upholds_beside rfl rfl rfl
    · exact upholds_beside rfl rfl rfl
  · exact .refl s

/-! ### The end of an event (R42, R43, R60, R170, R178) -/

theorem upholds_nextWork (n : Nat) (s : State) : Upholds s (State.nextWork n s) := by
  induction n generalizing s with
  | zero => exact .refl s
  | succ n ih =>
    unfold State.nextWork
    split
    · have same := sameButSweep_lookForSweep s
      exact upholds_beside same.links same.talk same.plans
    · split
      · exact upholds_beside rfl rfl rfl
      · split
        · exact upholds_beside rfl rfl rfl
        · exact (Upholds.completeJob (.refl s) _ _ _).trans (ih _)

theorem upholds_engineKick (s : State) : Upholds s s.engineKick := by
  unfold State.engineKick
  split
  · exact upholds_nextWork _ s
  · exact .refl s

theorem Link.plannable_of_lasting {l m : Link} (e : m.lasting = l.lasting) (p : l.plannable) : m.plannable := by
  have kind : m.kind = l.kind := (congrArg Link.kind e :)
  have state : m.state = l.state := (congrArg Link.state e :)
  rwa [Link.plannable, kind, state]

theorem upholds_radioKick (s : State) : Upholds s s.radioKick :=
  have same := sameButSending_radioKick s
  ⟨same.plans, fun id => by rw [same.talk], fun h => Link.plannable_of_lasting (same.lasting h)⟩

theorem upholds_finish (s0 s : State) : Upholds s (State.finish s0 s) := by
  obtain ⟨m, e, -⟩ := matrixKick_eq (State.oweRoutes s0 s.engineKick.radioKick)
  rw [State.finish, e]
  exact ((upholds_engineKick s).trans (upholds_radioKick _)).trans (upholds_beside rfl rfl rfl)

/-! ### The Tally Resolver (R74, R119, R124) -/

theorem Link.plannable_resolved (t : TallyBlock) (l : Link) (p : l.plannable) : (l.resolved t).plannable := by
  rw [Link.resolved, Link.oweLamp_eq]
  exact p

theorem Link.plannable_onAirChange (l : Link) (on : Bool) (p : l.plannable) : (l.onAirChange on).plannable := by
  unfold Link.onAirChange
  split
  · exact ⟨p.1, rfl⟩
  · split
    · exact ⟨p.1, rfl⟩
    · exact p
  · exact p

theorem upholds_changeSource (s : State) (x : Source) (v : Src) : Upholds s (s.changeSource x v) := by
  have changed : Upholds s (s.setTally (s.tally.setSrc x v)) := upholds_beside rfl rfl rfl
  refine changed.trans (upholds_mapLinks fun h l p => ?_)
  split
  · exact l.plannable_resolved _ p
  · exact p

/-- One record's controls replaced and the record recomputed. -/
theorem upholds_controlEvent {s : State} {h : Nat} {l : Link} (keeps : (s.link h).plannable → l.plannable) :
    Upholds s (s.controlEvent h l) :=
  (upholds_setLink keeps).trans (upholds_setLink (Link.plannable_resolved _ _))

theorem Upholds.afterTally {s t : State} (a : Upholds s t) (s0 : State) : Upholds s (State.afterTally s0 t) := by
  have delivered : Upholds t (State.deliverOnAir s0 t) := by
    refine (upholds_mapLinks fun h l p => ?_).restandAll
    split
    · exact p
    · exact l.plannable_onAirChange _ p
  exact (a.trans delivered).trans (upholds_finish s0 _)

end Sys2Proof.Machine
end

section
/-! How a relation between states is carried through the taking of requests, events and reports (R9, R29, R174,
R181): whatever the relation says, the owners alone have to meet it. -/

namespace Sys2Proof.Machine

open Sys2Proof

/-- A reflexive and transitive relation that the Control Port, the pins and the lines do not bear on. -/
structure Carried (R : State → State → Prop) : Prop where
  refl : ∀ s, R s s
  trans : ∀ {s t u}, R s t → R t u → R s u
  port : ∀ s x, R s (s.setPort x)
  pins : ∀ s x, R s (s.setPins x)
  radio : ∀ s x, R s (s.setRadio x)
  mtx : ∀ s x, R s (s.setMtx x)
  lines : ∀ s x, R s (s.setLines x)

/-- An owner whose answers leave states that the relation holds of. -/
def Carries {α : Type} (R : State → State → Prop) (own : α → State → Answer) : Prop := ∀ a s, R s (own a s).state

section

variable {R : State → State → Prop} (c : Carried R) {s : State}

/-! ### Owners -/

theorem Carried.ite {p : Prop} [Decidable p] {a b : Answer} (ha : p → R s a.state) (hb : ¬p → R s b.state) :
    R s (if p then a else b).state := by
  split
  · exact ha ‹_›
  · exact hb ‹_›

include c

theorem Carried.readsOnly {α : Type} {own : α → State → Answer} (r : ReadsOnly own) : Carries R own := fun a s => by
  rw [r a s]
  exact c.refl s

/-- A request that is refused, or else decided further. -/
theorem Carried.unless {p : Prop} [Decidable p] {st : Status} {b : Answer} (hb : ¬p → R s b.state) :
    R s (if p then s.refuse st else b).state :=
  Carried.ite (fun _ => c.refl s) hb

theorem Carried.withLink {h : Nat} {argsOk : Bool} {k : Link → Answer} (hk : R s (k (s.link h)).state) :
    R s (s.withLink h argsOk k).state :=
  c.unless fun _ => c.unless fun _ => hk

theorem Carried.whileWaiting {h : Nat} {k : Link → Answer} (hk : R s (k (s.link h)).state) :
    R s (s.whileWaiting h k).state :=
  c.withLink (c.unless fun _ => c.unless fun _ => hk)

theorem Carried.withReferral {h : Nat} {argsOk : Bool} {k : Link → Answer} (hk : R s (k (s.link h)).state) :
    R s (s.withReferral h argsOk k).state :=
  c.unless fun _ => c.unless fun _ => hk

/-! ### Transactions and events -/

theorem Carried.transaction {k : State → State} (h : R s (k s)) : R s (s.transaction k) := by
  unfold State.transaction
  split
  · exact c.refl s
  · split
    · exact c.pins s _
    · split
      · exact c.refl s
      · exact h

theorem Carried.take {α : Type} {own : α → State → Answer} (carries : Carries R own) (s : State) (n : Nat)
    (always : Bool) (b : ReqBody α) : R s (s.take n always b own) := by
  refine c.transaction ?_
  split
  · exact c.port s _
  · split
    · exact c.port s _
    · cases b with
      | badLength => exact c.port s _
      | args a => exact c.trans (carries a s) (c.port _ _)

theorem Carried.event {k : State → State} (h : R s (k s)) : R s (s.event k) := by
  unfold State.event
  split
  · exact c.refl s
  · exact h

theorem Carried.outside {k : State → State} (h : R s (k s)) : R s (s.outside k) := by
  unfold State.outside
  split
  · exact c.refl s
  · exact h

theorem Carried.report {α : Type} (b : LineBody α) {handle : α → Nat} {inRange : α → Bool} {k : α → State → State}
    (hk : ∀ a s, R s (k a s)) : R s (s.report b handle inRange k) := by
  have done : R s s.rrxDone := c.radio s _
  refine c.event ?_
  split
  · exact done
  · cases b with
    | badLength | badSum => exact done
    | fields a =>
      simp only
      split
      · exact done
      · split
        · exact done
        · exact c.trans done (hk a s.rrxDone)

theorem Carried.expiry {h : Nat} {kind : TimerKind} {k : State → Nat → Link → State}
    (hk : ∀ d, R s (State.finish s (k (s.reachTime d) h (s.link h)))) : R s (s.expiry h kind k) := by
  refine c.event ?_
  split
  · split
    · exact hk _
    · exact c.refl s
  · exact c.refl s

theorem Carried.panelEvent (b : LineBody PanelArgs) {press : Bool}
    (hk : ∀ (s : State) origin, R s (s.keyEvent origin press)) : R s (s.panelEvent b press) := by
  have done : R s s.mrxDone := c.mtx s _
  refine c.event ?_
  split
  · exact done
  · cases b with
    | badLength | badSum => exact done
    | fields a =>
      simp only
      split
      · exact c.trans done (hk _ _)
      · exact done

/-! ### The Control Port and the lines -/

theorem Carried.unrecognised (code : Nat) : R s (s.transaction fun s =>
    if s.port.owed.isSome then s.portFault else s.respond code .unknownRequest .empty) := by
  refine c.transaction ?_
  split <;> exact c.port s _

theorem Carried.selRises (clocked : Nat) : R s (s.selRises clocked) := by
  unfold State.selRises
  split
  · exact c.pins s _
  · split
    · exact c.port s _
    · exact c.refl s

theorem Carried.lineDone (x : Source) : R s (s.lineDone x) := by
  rw [lineDone_eq]
  exact c.lines s _

end

end Sys2Proof.Machine
end

section
/-! Plans that are sound stay so: through work that upholds what they rest on, through a departure that trims them,
through edits, commits, applications and discards, and through definitions of destinations (R157, R161, R165). -/

namespace Sys2Proof.Machine

open Sys2Proof

/-! ### The relation -/

/-- Where the plans of `s` are sound, those of `t` are. -/
structure KeepsPlans (s t : State) : Prop where
  sound : s.plansSound → t.plansSound

theorem KeepsPlans.refl (s : State) : KeepsPlans s s := ⟨id⟩

theorem KeepsPlans.trans {s t u : State} (a : KeepsPlans s t) (b : KeepsPlans t u) : KeepsPlans s u :=
  ⟨b.sound ∘ a.sound⟩

theorem carried_keepsPlans : Carried KeepsPlans where
  refl := .refl
  trans := .trans
  port _ _ := ⟨id⟩
  pins _ _ := ⟨id⟩
  radio _ _ := ⟨id⟩
  mtx _ _ := ⟨id⟩
  lines _ _ := ⟨id⟩

theorem State.plansSound_iff (s : State) : s.plansSound ↔ s.plans.pending.ordered ∧ s.plans.active.ordered
    ∧ s.Supports s.plans.active ∧ (s.plans.state = .commitWait → s.Supports s.plans.pending) := by
  simp only [State.plansSound, offence_eq_none_iff]

theorem State.isGroup_eq (s : State) (id : Nat) : s.isGroup id = (s.talk.kind id == some .group) := by
  unfold State.isGroup Talk.kind
  cases s.talk.dest id <;> rfl

/-- A plan whose entries are of a plan without offence has none, where what they rest on is still there. -/
theorem State.Supports.of_sublist {s t : State} {p q : Plan} (h : s.Supports p) (down : q.down = p.down)
    (packs : q.packs.Sublist p.packs)
    (groups : ∀ i d, p.down.get i none = some d → s.isGroup d = true → t.isGroup d = true)
    (links : ∀ e, e ∈ q.packs → (s.link e.handle).plannable → (t.link e.handle).plannable) : t.Supports q := by
  have planned : ∀ e, e ∈ q.packs → (t.link e.handle).plannable := fun e m =>
    links e m ⟨h.packs e (packs.subset m), h.eligible e (packs.subset m)⟩
  refine ⟨fun i d named => ?_, ?_, fun e m => (planned e m).1, fun e m => (planned e m).2, h.ups.sublist packs⟩
  · rw [down] at named
    exact groups i d named (h.groups i d named)
  · rw [down]
    exact h.slots

theorem Upholds.supports {s t : State} (a : Upholds s t) {p : Plan} (h : s.Supports p) : t.Supports p :=
  h.of_sublist rfl (.refl _) (fun _ d _ group => by rwa [State.isGroup_eq, a.kinds, ← State.isGroup_eq])
    fun e _ => a.links e.handle

theorem Upholds.keeps {s t : State} (a : Upholds s t) : KeepsPlans s t := by
  refine ⟨fun sound => ?_⟩
  rw [State.plansSound_iff] at sound ⊢
  obtain ⟨pending, active, inForce, waiting⟩ := sound
  rw [a.plans]
  exact ⟨pending, active, a.supports inForce, fun waits => a.supports (waiting waits)⟩

theorem KeepsPlans.finish {s t : State} (a : KeepsPlans s t) (s0 : State) : KeepsPlans s (State.finish s0 t) :=
  a.trans (upholds_finish s0 t).keeps

theorem KeepsPlans.done {s t : State} (a : KeepsPlans s t) (s0 : State) (st : Status) (body : RespBody) :
    KeepsPlans s (State.done s0 t st body).state :=
  a.finish s0

/-- The end of an event whose work upholds what the plans rest on. -/
theorem Upholds.event {s t : State} (a : Upholds s t) (s0 : State) : KeepsPlans s (State.finish s0 t) :=
  a.keeps.finish s0

theorem keepsPlans_beside {s t : State} (links : t.links = s.links := by rfl) (talk : t.talk = s.talk := by rfl)
    (plans : t.plans = s.plans := by rfl) : KeepsPlans s t :=
  (upholds_beside links talk plans).keeps

theorem keepsPlans_setLink {s : State} {h : Nat} {l : Link} (keeps : (s.link h).plannable → l.plannable) :
    KeepsPlans s (s.setLink h l) :=
  (upholds_setLink keeps).keeps

/-! ### Departures (R84, R165) -/

theorem Plan.without_sublist (p : Plan) (h : Nat) : (p.without h).packs.Sublist p.packs := List.filter_sublist

theorem Plan.ordered_without {p : Plan} (ordered : p.ordered) (h : Nat) : (p.without h).ordered :=
  List.Pairwise.sublist (p.without_sublist h) ordered

/-- A plan trimmed of a link rests on nothing of that link. -/
theorem State.Supports.without {s t : State} {p : Plan} {h : Nat} (sup : s.Supports p)
    (kinds : s.talk.SameKinds t.talk) (links : ∀ g, g ≠ h → t.link g = s.link g) : t.Supports (p.without h) :=
  sup.of_sublist rfl (p.without_sublist h)
    (fun _ d _ group => by rwa [State.isGroup_eq, kinds, ← State.isGroup_eq])
    fun e m planned => by rwa [links e.handle ((p.mem_without h e).mp m).2]

/-- A record that a departure replaces is trimmed from the plans, where they could name it. -/
theorem keepsPlans_leavePlans {s : State} {h : Nat} {l : Link} {was : LinkState}
    (left : (s.link h).plannable → was.planEligible = true) :
    KeepsPlans s ((s.setLink h l).leavePlans h was) := by
  cases eligible : was.planEligible with
  | false =>
    rw [leavePlans_not h eligible]
    exact keepsPlans_setLink fun p => absurd (left p) (by simp [eligible])
  | true =>
    rw [leavePlans_eligible h eligible]
    obtain ⟨plans, talk, -⟩ := trim_plans (s.setLink h l) h
    have trimmed : ((s.setLink h l).trim h).links = (s.setLink h l).links := (besidePlans_trim _ h).links
    generalize (s.setLink h l).trim h = u at plans talk trimmed
    refine KeepsPlans.trans (t := u) ⟨fun sound => ?_⟩ ?_
    · rw [State.plansSound_iff] at sound ⊢
      obtain ⟨pending, active, inForce, waiting⟩ := sound
      have kinds : s.talk.SameKinds u.talk := fun id => by rw [talk, State.setLink_talk]
      have links : ∀ g, g ≠ h → u.link g = s.link g := fun g other => by
        rw [State.link, trimmed]
        exact s.link_setLink_other l other
      rw [plans]
      exact ⟨Plan.ordered_without pending h, Plan.ordered_without active h, inForce.without kinds links,
        fun waits => (waiting waits).without kinds links⟩
    · exact (upholds_setTalk (u.talk.sameKinds_endPacks _ _)).restandAll.keeps

theorem keepsPlans_enterReleasing {s : State} {h : Nat} {l : Link} (state : l.state = (s.link h).state) :
    KeepsPlans s (s.enterReleasing h l) :=
  keepsPlans_leavePlans fun p => state ▸ p.2

theorem keepsPlans_enterLost {s : State} {h : Nat} {l : Link} (state : l.state = (s.link h).state) :
    KeepsPlans s (s.enterLost h l) :=
  have left : KeepsPlans s ((s.setLink h l.toLost).leavePlans h l.state) := keepsPlans_leavePlans fun p => state ▸ p.2
  left.trans (keepsPlans_beside)

/-! ### Destinations defined and deleted (R135, R138) -/

theorem Plan.names_of_get {p : Plan} {i id : Nat} (h : p.down.get i none = some id) : p.names id = true := by
  rw [Plan.names, List.contains_iff_mem, p.down.rows_eq none, List.mem_map]
  exact ⟨i, List.mem_range.mpr (Tab.lt_of_get_some h), h⟩

/-- A destination is written that, where a plan names it as a GROUP, stays one. -/
theorem keepsPlans_setDest {s : State} {id : Nat} {x : Option Dest}
    (stays : s.plans.name id = true → ∀ d, s.talk.dest id = some d → d.kind = .group →
      ∃ y, x = some y ∧ y.kind = .group) : KeepsPlans s (s.setTalk (s.talk.setDest id x)) := by
  refine ⟨fun sound => ?_⟩
  rw [State.plansSound_iff] at sound ⊢
  obtain ⟨pending, active, inForce, waiting⟩ := sound
  have supports : ∀ {p : Plan}, (∀ d, p.names d = true → s.plans.name d = true) → s.Supports p →
      (s.setTalk (s.talk.setDest id x)).Supports p := fun names sup => by
    refine sup.of_sublist rfl (.refl _) (fun i d named group => ?_) fun _ _ planned => planned
    by_cases own : d = id
    · obtain ⟨e, dest, kind⟩ := (s.isGroup_iff d).mp group
      rw [own] at dest named
      obtain ⟨y, written, kind'⟩ := stays (names id (Plan.names_of_get named)) e dest kind
      refine (State.isGroup_iff _ d).mpr ⟨y, ?_, kind'⟩
      rw [own, State.setTalk_talk, Talk.dest_setDest_same _ _ (Talk.dest_lt dest), written]
    · rw [State.isGroup_iff, State.setTalk_talk, Talk.dest_setDest_other _ _ own, ← State.isGroup_iff]
      exact group
  exact ⟨pending, active, supports (fun _ named => (Bool.or_eq_true _ _).mpr (.inr named)) inForce,
    fun waits => supports (fun _ named => (Bool.or_eq_true _ _).mpr (.inl named)) (waiting waits)⟩

theorem keepsPlans_defineDest {s : State} {id : Nat} {x : Dest} (free : s.destBusy id x = false) (y : Dest)
    (kind : y.kind = x.kind) : KeepsPlans s (s.setTalk (s.talk.setDest id (some y))) := by
  refine keepsPlans_setDest fun named d dest group => ⟨y, rfl, ?_⟩
  simp only [State.destBusy, dest, named, Bool.or_eq_false_iff, Bool.true_and, bne_eq_false_iff_eq] at free
  rw [kind, ← free.2, group]

theorem keepsPlans_deleteDest {s : State} {id : Nat} (free : s.destHeld id = false) :
    KeepsPlans s (s.setTalk (s.talk.setDest id none)) := by
  refine keepsPlans_setDest fun named => ?_
  simp [State.destHeld, named] at free

/-! ### The plans edited, committed, discarded and applied (R159 to R164) -/

theorem insertPack_ordered {e : Pack} {l : List Pack} (ordered : l.Pairwise fun e f => e.handle < f.handle)
    (fresh : ∀ f, f ∈ l → f.handle ≠ e.handle) : (insertPack e l).Pairwise fun e f => e.handle < f.handle := by
  induction l with
  | nil => exact List.pairwise_singleton _ e
  | cons x xs ih =>
    obtain ⟨first, rest⟩ := List.pairwise_cons.mp ordered
    have apart := fresh x List.mem_cons_self
    unfold insertPack
    split
    · rename_i below
      refine List.pairwise_cons.mpr ⟨fun f m => ?_, ordered⟩
      rcases List.mem_cons.mp m with rfl | m
      · exact below
      · exact below.trans (first f m)
    · refine List.pairwise_cons.mpr ⟨fun f m => ?_, ih rest fun f m => fresh f (List.mem_cons_of_mem _ m)⟩
      rcases (mem_insertPack e f xs).mp m with rfl | m
      · omega
      · exact first f m

theorem Plan.ordered_setPack {p : Plan} (ordered : p.ordered) (e : Pack) : (p.setPack e).ordered := by
  unfold Plan.setPack
  split
  · exact Plan.ordered_without ordered _
  · exact insertPack_ordered (Plan.ordered_without ordered _) fun f m => ((p.mem_without _ f).mp m).2

/-- An edit while no commit waits: of the Pending Plan only the order counts. -/
theorem keepsPlans_setPendingPlan {s : State} (idle : s.plans.state ≠ .commitWait) {p : Plan}
    (ordered : s.plans.pending.ordered → p.ordered) : KeepsPlans s (s.setPendingPlan p) :=
  ⟨fun ⟨pending, active, inForce, _⟩ => ⟨ordered pending, active, inForce, fun waits => absurd waits idle⟩⟩

theorem keepsPlans_commit {s : State} (none : s.offence s.plans.pending = none) :
    KeepsPlans s (s.setPlans { s.plans with state := .commitWait }) :=
  ⟨fun ⟨pending, active, inForce, _⟩ => ⟨pending, active, inForce, fun _ => none⟩⟩

theorem keepsPlans_discard (s : State) :
    KeepsPlans s (s.setPlans { s.plans with pending := s.plans.active, state := .idle }) :=
  ⟨fun ⟨_, active, inForce, _⟩ => ⟨active, active, inForce, fun waits => by cases waits⟩⟩

theorem keepsPlans_applyPlan {s : State} (waits : s.plans.state = .commitWait) : KeepsPlans s s.applyPlan := by
  have applied : KeepsPlans s s.planApplied := ⟨fun ⟨pending, _, _, waiting⟩ =>
    ⟨pending, pending, waiting waits, fun idle => by cases idle⟩⟩
  have ended : Upholds s.planApplied s.packsEnded := upholds_setTalk (s.talk.sameKinds_endPacks s.now _)
  exact applied.trans ended.restandAll.keeps

end Sys2Proof.Machine
end

section
/-! Every step keeps the plans sound (O59): what each owner, report and expiry does to what the plans rest on, command
by command (R157, R161, R165). -/

namespace Sys2Proof.Machine

open Sys2Proof

/-! ### Requests of chapters 1, 2 and 5 -/

theorem keepsPlans_loadProfile : Carries KeepsPlans ownLoadProfile := by
  intro a s
  unfold ownLoadProfile
  split
  · exact .refl s
  · exact carried_keepsPlans.unless fun _ => keepsPlans_beside

theorem keepsPlans_block : Carries KeepsPlans ownBlock := by
  refine fun k s => carried_keepsPlans.unless fun _ => Carried.ite (fun _ => .refl s) fun _ => ?_
  split
  · exact .refl s
  · refine (Upholds.lowPoolSince ?_ _).keeps
    exact upholds_beside rfl rfl rfl

theorem keepsPlans_unblock : Carries KeepsPlans ownUnblock := fun _ s =>
  carried_keepsPlans.unless fun _ => Carried.ite (fun _ => KeepsPlans.done keepsPlans_beside _ _ _) fun _ => .refl s

theorem keepsPlans_setLabel : Carries KeepsPlans ownSetLabel := fun _ s =>
  carried_keepsPlans.withLink (carried_keepsPlans.unless fun _ => Carried.ite (fun _ => .refl s) fun _ =>
    carried_keepsPlans.unless fun _ => keepsPlans_setLink id)

theorem keepsPlans_setPolicy : Carries KeepsPlans ownSetPolicy := fun _ _ =>
  carried_keepsPlans.withLink (carried_keepsPlans.unless fun _ => keepsPlans_setLink id)

theorem keepsPlans_seedSpare : Carries KeepsPlans ownSeedSpare := by
  refine fun a s => carried_keepsPlans.unless fun _ => carried_keepsPlans.unless fun _ => ?_
  split
  · exact .refl s
  · exact KeepsPlans.done keepsPlans_beside _ _ _

theorem keepsPlans_dropSpare : Carries KeepsPlans ownDropSpare := by
  refine fun slot s => carried_keepsPlans.unless fun _ => ?_
  split
  · exact .refl s
  · refine carried_keepsPlans.unless fun _ => (Upholds.lowPoolSince ?_ _).keeps
    exact upholds_beside rfl rfl rfl

theorem keepsPlans_setPoolThreshold : Carries KeepsPlans ownSetPoolThreshold := fun n s =>
  have set : Upholds s (s.setPool { s.pool with threshold := min n 32, armed := true }) := upholds_beside rfl rfl rfl
  (set.trans (upholds_evalLowPool _)).keeps

/-! ### Requests of chapter 4 -/

theorem keepsPlans_admit : Carries KeepsPlans ownAdmit := by
  refine fun a s => carried_keepsPlans.unless fun _ => carried_keepsPlans.unless fun _ => ?_
  split
  · exact .refl s
  · rename_i h lowest
    obtain ⟨-, free, -⟩ := (s.findLink_eq_some_iff _ h).mp lowest
    have unplanned : ¬(s.link h).plannable := Link.not_plannable (by rw [beq_iff_eq.mp free]; rfl)
    have written : KeepsPlans s (s.setLink h (Link.checking a)) := keepsPlans_setLink fun p => absurd p unplanned
    exact carried_keepsPlans.unless fun _ => KeepsPlans.done (written.trans keepsPlans_beside) _ _ _

theorem keepsPlans_askRetune (s : State) (h : Nat) (kind : JobKind) (step : Option Nat) (forced : Bool) :
    KeepsPlans s (s.askRetune h (s.link h) kind step forced) :=
  have rechecked : KeepsPlans s (s.setLink h ((s.link h).toRecheck kind step forced)) :=
    keepsPlans_setLink fun p => ⟨p.1, rfl⟩
  rechecked.trans keepsPlans_beside

theorem keepsPlans_retune : Carries KeepsPlans ownRetune := fun _ s =>
  carried_keepsPlans.withLink (carried_keepsPlans.unless fun _ => carried_keepsPlans.unless fun _ =>
    (keepsPlans_askRetune s _ _ _ _).done s _ _)

theorem keepsPlans_moveZones : Carries KeepsPlans ownMoveZones := fun a s =>
  have rechecked : KeepsPlans s (s.setLink a.handle { s.link a.handle with state := .recheck, job := some .move }) :=
    keepsPlans_setLink fun p => ⟨p.1, rfl⟩
  carried_keepsPlans.withLink (carried_keepsPlans.unless fun _ => carried_keepsPlans.unless fun _ =>
    KeepsPlans.done (rechecked.trans keepsPlans_beside) s _ _)

theorem keepsPlans_cancelRetune : Carries KeepsPlans ownCancelRetune := fun h s =>
  have active : KeepsPlans s (s.setLink h { s.link h with state := .active, target := none, forced := false }) :=
    keepsPlans_setLink fun p => ⟨p.1, rfl⟩
  carried_keepsPlans.whileWaiting (KeepsPlans.done (active.trans keepsPlans_beside) s _ _)

theorem keepsPlans_tuneNow : Carries KeepsPlans ownTuneNow := fun h s =>
  have settling : KeepsPlans s (s.setLink h { s.link h with
      state := .settling, forced := true, order := (s.link h).target.map .tune, timer := none }) :=
    keepsPlans_setLink fun p => ⟨p.1, rfl⟩
  carried_keepsPlans.whileWaiting (settling.done s _ _)

theorem keepsPlans_answerReferral : Carries KeepsPlans ownAnswerReferral := fun _ s =>
  carried_keepsPlans.withReferral (carried_keepsPlans.unless fun _ =>
    (keepsPlans_askRetune s _ _ _ _).done s _ _)

theorem keepsPlans_declineReferral : Carries KeepsPlans ownDeclineReferral := fun _ _ =>
  carried_keepsPlans.withReferral (keepsPlans_setLink fun p => ⟨p.1, rfl⟩)

theorem keepsPlans_discardLink : Carries KeepsPlans ownDiscard := fun _ s =>
  carried_keepsPlans.withLink (carried_keepsPlans.unless fun lost =>
    (upholds_enterFree (by rw [Decidable.not_not.mp lost]; rfl)).event s)

theorem keepsPlans_retire : Carries KeepsPlans ownRetire := by
  refine fun a s => carried_keepsPlans.withLink ?_
  have voided : KeepsPlans s (s.voidJob a.handle) := keepsPlans_beside
  have releases : KeepsPlans s (s.enterReleasing a.handle (s.link a.handle)) := keepsPlans_enterReleasing rfl
  unfold retireBy
  cases state : (s.link a.handle).state with
  | free | releasing => exact .refl s
  | checking =>
    have departed : ((s.voidJob a.handle).link a.handle).state.planEligible = false := by
      show (s.link a.handle).state.planEligible = false
      rw [state]
      rfl
    exact (voided.trans (upholds_enterFree departed).keeps).done s _ _
  | recheck =>
    have left : KeepsPlans (s.voidJob a.handle) (s.retireRecheck a.handle (s.link a.handle)) :=
      keepsPlans_enterReleasing rfl
    exact carried_keepsPlans.unless fun _ => (voided.trans left).done s _ _
  | retuneWait =>
    refine carried_keepsPlans.unless fun _ => KeepsPlans.done ?_ s _ _
    have left : KeepsPlans s (s.enterReleasing a.handle { s.link a.handle with target := none }) :=
      keepsPlans_enterReleasing rfl
    exact left.trans keepsPlans_beside
  | lost => exact releases.done s _ _
  | active | referred | settling | reverting => exact carried_keepsPlans.unless fun _ => releases.done s _ _

/-! ### Requests of chapter 6 -/

theorem keepsPlans_loadTallyMap : Carries KeepsPlans ownLoadTallyMap := by
  intro a s
  unfold ownLoadTallyMap
  split
  · exact .refl s
  · rename_i m _
    have installed : Upholds s (s.installMap m) := upholds_beside rfl rfl rfl
    exact ((installed.trans (upholds_mapLinks fun _ l => l.plannable_resolved _)).afterTally s).keeps

theorem keepsPlans_clearSource : Carries KeepsPlans ownClearSource := by
  intro n s
  unfold ownClearSource
  split
  · exact .refl s
  · exact Carried.ite (fun _ => ((upholds_changeSource s _ _).afterTally s).keeps) fun _ => .refl s

/-- One record's controls replaced, the record recomputed and the event ended. -/
theorem keepsPlans_control {s : State} {h : Nat} {l : Link} (keeps : (s.link h).plannable → l.plannable) :
    KeepsPlans s (State.afterTally s (s.controlEvent h l)) :=
  ((upholds_controlEvent keeps).afterTally s).keeps

theorem keepsPlans_bind : Carries KeepsPlans ownBind := by
  intro a s
  unfold ownBind
  split
  · exact .refl s
  · refine carried_keepsPlans.withLink (carried_keepsPlans.unless fun _ => Carried.ite (fun _ => .refl s) fun _ => ?_)
    split
    · exact .refl s
    · exact carried_keepsPlans.unless fun _ => keepsPlans_control id

theorem keepsPlans_unbind : Carries KeepsPlans ownUnbind := by
  intro a s
  unfold ownUnbind
  split
  · exact .refl s
  · split
    · exact .refl s
    · exact keepsPlans_control id

theorem keepsPlans_holdLive : Carries KeepsPlans ownHoldLive := fun _ s =>
  carried_keepsPlans.withLink (carried_keepsPlans.unless fun _ => Carried.ite (fun _ => .refl s) fun _ =>
    keepsPlans_control id)

theorem keepsPlans_suppress : Carries KeepsPlans ownSuppress := fun _ _ =>
  carried_keepsPlans.withLink (carried_keepsPlans.unless fun _ => carried_keepsPlans.unless fun _ =>
    keepsPlans_control id)

/-! ### Requests of chapter 7 -/

theorem keepsPlans_defineKey : Carries KeepsPlans ownDefineKey := by
  intro a s
  unfold ownDefineKey
  split
  · exact .refl s
  · refine carried_keepsPlans.unless fun _ => ?_
    split
    · exact .refl s
    · split
      · exact .refl s
      · exact (upholds_setTalk (s.talk.sameKinds_define _ _)).keeps

theorem keepsPlans_deleteKey : Carries KeepsPlans ownDeleteKey := by
  refine fun k s => carried_keepsPlans.unless fun _ => ?_
  split
  · exact .refl s
  · exact carried_keepsPlans.unless fun _ => (upholds_setTalk (s.talk.sameKinds_delete _ _)).keeps

theorem keepsPlans_ownDefineDest : Carries KeepsPlans ownDefineDest := by
  intro a s
  unfold ownDefineDest
  split
  · exact .refl s
  · split
    · exact .refl s
    · exact carried_keepsPlans.unless fun free => keepsPlans_defineDest (Bool.eq_false_iff.mpr free) _ rfl

theorem keepsPlans_changeDest {s : State} (id : Nat) {f : Dest → Dest} (same : ∀ d, (f d).kind = d.kind) :
    KeepsPlans s (s.changeDest id f) :=
  ((upholds_setTalk (s.talk.sameKinds_onDest id same)).trans (upholds_restandOne _ id)).event s

theorem keepsPlans_setTarget : Carries KeepsPlans ownSetTarget := by
  refine fun a s => carried_keepsPlans.unless fun _ => ?_
  split
  · exact .refl s
  · exact keepsPlans_changeDest _ fun _ => rfl

theorem keepsPlans_setWatch : Carries KeepsPlans ownSetWatch := by
  refine fun a s => carried_keepsPlans.unless fun _ => ?_
  split
  · exact .refl s
  · exact keepsPlans_changeDest _ fun _ => rfl

theorem keepsPlans_ownDeleteDest : Carries KeepsPlans ownDeleteDest := by
  refine fun id s => carried_keepsPlans.unless fun _ => ?_
  split
  · exact .refl s
  · exact carried_keepsPlans.unless fun free => keepsPlans_deleteDest (Bool.eq_false_iff.mpr free)

theorem keepsPlans_setLast : Carries KeepsPlans ownSetLast := by
  refine fun k s => carried_keepsPlans.unless fun _ => ?_
  split
  · exact .refl s
  · exact (upholds_setTalk (s.talk.sameKinds_setLast _ _)).keeps

theorem keepsPlans_clearTalk : Carries KeepsPlans ownClearTalk := fun _ s =>
  (upholds_setTalk s.talk.sameKinds_cleared).event s

/-! ### Requests of chapters 8 and 10 -/

theorem keepsPlans_stageDown : Carries KeepsPlans ownStageDown := fun _ _ =>
  carried_keepsPlans.unless fun _ => carried_keepsPlans.unless fun idle => keepsPlans_setPendingPlan idle id

theorem keepsPlans_stagePack (s : State) (h : Nat) (argsOk : Bool) (f : Pack → Pack) :
    KeepsPlans s (s.stagePack h argsOk f).state :=
  carried_keepsPlans.unless fun _ => carried_keepsPlans.unless fun _ => carried_keepsPlans.unless fun _ =>
    carried_keepsPlans.unless fun idle => keepsPlans_setPendingPlan idle fun ordered => Plan.ordered_setPack ordered _

theorem keepsPlans_ownCommit : Carries KeepsPlans ownCommit := by
  refine fun _ s => carried_keepsPlans.unless fun _ => ?_
  split
  · exact .refl s
  · exact keepsPlans_commit ‹_›

theorem keepsPlans_discardPlan : Carries KeepsPlans ownDiscardPlan := fun _ s => keepsPlans_discard s

theorem keepsPlans_readSummary : Carries KeepsPlans ownReadSummary := fun _ s => carried_keepsPlans.port s _

/-! ### Timers (R80 to R82, R85, R109) -/

theorem keepsPlans_settleExpires (s : State) (h : Nat) : KeepsPlans s (s.settleExpires h (s.link h)) := by
  have lost : KeepsPlans s (s.enterLost h (s.link h)) := keepsPlans_enterLost rfl
  unfold State.settleExpires
  split
  · split
    · exact keepsPlans_setLink fun p => ⟨p.1, rfl⟩
    · split
      · exact keepsPlans_setLink fun p => p
      · exact lost
  · exact lost
  · exact .refl s

theorem keepsPlans_releaseExpires (s : State) (h : Nat) : KeepsPlans s (s.releaseExpires h (s.link h)) := by
  unfold State.releaseExpires
  split
  · split
    · exact keepsPlans_setLink fun p => p
    · exact keepsPlans_enterLost rfl
  · exact .refl s

theorem keepsPlans_referralExpires (s : State) (h : Nat) : KeepsPlans s (s.referralExpires h (s.link h)) := by
  unfold State.referralExpires
  split
  · refine (Upholds.notify (upholds_setLink fun p => ?_) _).keeps
    exact ⟨p.1, rfl⟩
  · exact .refl s

theorem keepsPlans_expiry {s : State} {h : Nat} {kind : TimerKind} {k : State → Nat → Link → State}
    (hk : ∀ s : State, KeepsPlans s (k s h (s.link h))) : KeepsPlans s (s.expiry h kind k) :=
  carried_keepsPlans.expiry fun d =>
    have reached : KeepsPlans s (s.reachTime d) := keepsPlans_beside
    (reached.trans (hk (s.reachTime d))).finish s

/-! ### Reports from the rack (R78, R85, R103, R174, R175) -/

theorem upholds_reachActive (s : State) (h kept : Nat) : Upholds s (s.reachActive h (s.link h) kept) := by
  have written : Upholds s (s.setLink h ((s.link h).toActive kept)) := upholds_setLink fun p => ⟨p.1, rfl⟩
  have tuned : Upholds s (s.tunedLink h (s.link h) kept) := by
    unfold State.tunedLink
    split
    · exact written.trans (upholds_beside rfl rfl rfl)
    · exact written
  rw [reachActive_eq]
  split
  · exact tuned
  · exact tuned.restandAll

theorem keepsPlans_tunedAt (s : State) (h step : Nat) : KeepsPlans s (s.tunedAt h step) := by
  have reached := upholds_reachActive s h step
  unfold State.tunedAt
  simp only
  split
  · exact .refl s
  · split
    · exact (reached.notify _).event s
    · split
      · exact (reached.notify _).event s
      · exact .refl s

theorem keepsPlans_mutedAt (s : State) (h : Nat) : KeepsPlans s (s.mutedAt h) := by
  unfold State.mutedAt
  simp only
  split
  · rename_i away
    have departed : (s.link h).state.planEligible = false := by
      rcases away with e | e <;> rw [e] <;> rfl
    exact ((upholds_enterFree departed).notify _).event s
  · exact .refl s

theorem upholds_disturbedActive {s : State} {h : Nat} {l : Link} (severity : Nat) (kind : l.kind = (s.link h).kind)
    (active : l.state = .active) : Upholds s (s.disturbedActive h severity l) := by
  have written : Upholds s (s.setLink h l) := upholds_setLink fun p => ⟨kind.trans p.1, by rw [active]; rfl⟩
  unfold State.disturbedActive
  split
  · unfold State.autoRetune
    split
    · exact upholds_enterReferred kind _
    · have rechecked : Upholds s (s.setLink h { l with state := .recheck, job := some .auto, target := none }) :=
        upholds_setLink fun p => ⟨kind.trans p.1, rfl⟩
      exact rechecked.trans (upholds_beside rfl rfl rfl)
  · exact upholds_enterReferred kind _
  · exact written.notify _
  · exact written

theorem keepsPlans_disturb (s : State) (h severity : Nat) : KeepsPlans s (s.disturb h severity) := by
  unfold State.disturb
  simp only
  split
  · rename_i active
    have kind : (s.link h).disturbed.kind = (s.link h).kind := rfl
    exact (upholds_disturbedActive _ kind active).event s
  · refine keepsPlans_setLink fun p => ?_
    exact p

theorem keepsPlans_carrierLost (s : State) (h : Nat) : KeepsPlans s (s.carrierLost h) := by
  refine (Upholds.notify (upholds_setLink fun p => ?_) _).keeps
  exact p

theorem keepsPlans_keyEvent (s : State) (origin : Origin) (press : Bool) :
    KeepsPlans s (s.keyEvent origin press) := by
  unfold State.keyEvent
  split
  · exact .refl s
  · exact (upholds_setTalk (s.talk.sameKinds_keyEventAt _ _ _)).event s

/-! ### Talk limits, tally lines and the frame mark (R114, R115, R152, R162) -/

theorem keepsPlans_talkExpires (s : State) (k d : Nat) (x : Key) :
    KeepsPlans s (State.finish s ((s.reachTime d).talkExpires k x)) := by
  have reached : Upholds s (s.reachTime d) := upholds_beside rfl rfl rfl
  have ended := reached.trans (upholds_setTalk ((s.reachTime d).talk.sameKinds_endKey (s.reachTime d).now k))
  exact (ended.notify _).event s

theorem keepsPlans_tallyFrame (s : State) (x : Source) (b : LineBody FrameArgs) :
    KeepsPlans s (s.tallyFrame x b) := by
  unfold State.tallyFrame
  split
  · exact .refl s
  · exact .refl s
  · split
    · exact .refl s
    · split
      · exact .refl s
      · rename_i a _ _
        have changed := upholds_changeSource s x (s.framed x a)
        refine (Upholds.afterTally ?_ s).keeps
        unfold State.noteLive
        split
        · exact changed.notify _
        · exact changed

theorem keepsPlans_livenessExpires (s : State) (x : Source) (d : Nat) :
    KeepsPlans s (State.afterTally s ((s.reachTime d).livenessExpires x)) := by
  have reached : Upholds s (s.reachTime d) := upholds_beside rfl rfl rfl
  exact (((reached.trans (upholds_changeSource _ x _)).notify _).afterTally s).keeps

theorem keepsPlans_frameMark (s : State) :
    KeepsPlans s (s.outside fun s => if s.plans.state = .commitWait then State.finish s s.applyPlan else s) := by
  refine carried_keepsPlans.outside ?_
  split
  · exact (keepsPlans_applyPlan ‹_›).finish s
  · exact .refl s

/-! ### Every command -/

theorem event_keepsPlans {c : Instr} (h : c.request = none) (s : State) :
    ∃ t, exec c s = .next t ∧ KeepsPlans s t := by
  have carried := carried_keepsPlans
  have completes : ∀ k : State → State, (∀ s, Upholds s (k s)) →
      KeepsPlans s (s.event fun s => State.finish s (k s)) := fun k hk => carried.event ((hk s).event s)
  cases c
  all_goals cases h
  case framingError => exact ⟨_, rfl, carried.transaction (carried.port s _)⟩
  case collect =>
    refine ⟨_, rfl, carried.event ?_⟩
    split
    · exact .refl s
    · exact carried.port s _
  case collectEnd n => exact ⟨_, rfl, carried.event (carried.selRises n)⟩
  case checkCompletion => exact ⟨_, rfl, completes _ upholds_checkCompletes⟩
  case trialEnd => exact ⟨_, rfl, completes _ upholds_trialEnds⟩
  case sweepUnitCompletion => exact ⟨_, rfl, completes _ upholds_sweepCompletes⟩
  case settleTimerExpiry h => exact ⟨_, rfl, keepsPlans_expiry fun s => keepsPlans_settleExpires s h⟩
  case releaseTimerExpiry h => exact ⟨_, rfl, keepsPlans_expiry fun s => keepsPlans_releaseExpires s h⟩
  case referralTimerExpiry h => exact ⟨_, rfl, keepsPlans_expiry fun s => keepsPlans_referralExpires s h⟩
  case tuned b => exact ⟨_, rfl, carried.report b fun _ s => keepsPlans_tunedAt s _ _⟩
  case muted b => exact ⟨_, rfl, carried.report b fun h s => keepsPlans_mutedAt s h⟩
  case interference b => exact ⟨_, rfl, carried.report b fun _ s => keepsPlans_disturb s _ _⟩
  case carrierLoss b => exact ⟨_, rfl, carried.report b fun h s => keepsPlans_carrierLost s h⟩
  case carrierBack b => exact ⟨_, rfl, carried.report b fun _ _ => keepsPlans_setLink fun p => p⟩
  case key b =>
    refine ⟨_, rfl, carried.report b fun a s => ?_⟩
    split
    · exact keepsPlans_keyEvent s _ _
    · exact .refl s
  case radioReceiveTimeout => exact ⟨_, rfl, carried.event (carried.radio s _)⟩
  case radioUnknownReportType => exact ⟨_, rfl, carried.event (carried.radio s _)⟩
  case ctsAsserted =>
    exact ⟨_, rfl, carried.trans (carried.radio s _) (carried.event ((Upholds.refl _).event _))⟩
  case ctsWithdrawn => exact ⟨_, rfl, carried.radio s _⟩
  case radioMessageComplete => exact ⟨_, rfl, completes _ fun _ => upholds_beside rfl rfl rfl⟩
  case press b => exact ⟨_, rfl, carried.panelEvent b fun s o => keepsPlans_keyEvent s o true⟩
  case release b => exact ⟨_, rfl, carried.panelEvent b fun s o => keepsPlans_keyEvent s o false⟩
  case matrixReceiveTimeout => exact ⟨_, rfl, carried.event (carried.mtx s _)⟩
  case matrixUnknownEventType => exact ⟨_, rfl, carried.event (carried.mtx s _)⟩
  case routeComplete => exact ⟨_, rfl, completes _ fun _ => upholds_beside rfl rfl rfl⟩
  case tallyFrame x b =>
    exact ⟨_, rfl, carried.event (carried.trans (carried.lineDone x) (keepsPlans_tallyFrame _ x b))⟩
  case tallyReceiveTimeout x => exact ⟨_, rfl, carried.event (carried.lineDone x)⟩
  case tallyUnknownMessageType x _ => exact ⟨_, rfl, carried.event (carried.lineDone x)⟩
  case livenessExpiry x =>
    refine ⟨_, rfl, carried.event ?_⟩
    split
    · exact keepsPlans_livenessExpires s x _
    · exact .refl s
  case talkDeadlineExpiry k =>
    refine ⟨_, rfl, carried.event ?_⟩
    split
    · exact keepsPlans_talkExpires s k _ _
    · exact .refl s
  case frameMark => exact ⟨_, rfl, keepsPlans_frameMark s⟩
  case hardwareReset =>
    have fresh : KeepsPlans State.reset s.underReset := keepsPlans_beside
    exact ⟨_, rfl, ⟨fun _ => fresh.sound plansSound_reset⟩⟩
  case resetRisingEdge =>
    refine ⟨_, rfl, ?_⟩
    split
    · exact carried.pins s _
    · exact .refl s

theorem writer_keepsPlans {c : Instr} {n : Nat} {ok : Bool} (hl : c.lookup = false)
    (h : c.request = some (n, ok)) (s : State) : ∃ t, exec c s = .next t ∧ KeepsPlans s t := by
  have take : ∀ {α : Type} {own : α → State → Answer}, Carries KeepsPlans own → ∀ n always (b : ReqBody α),
      KeepsPlans s (s.take n always b own) := fun carries => carried_keepsPlans.take carries s
  cases c
  all_goals cases hl
  all_goals cases h
  case unrecognisedRequest => exact ⟨_, rfl, carried_keepsPlans.unrecognised _⟩
  case loadProfile b => exact ⟨_, rfl, take keepsPlans_loadProfile _ _ b⟩
  case block b => exact ⟨_, rfl, take keepsPlans_block _ _ b⟩
  case unblock b => exact ⟨_, rfl, take keepsPlans_unblock _ _ b⟩
  case setLabel b => exact ⟨_, rfl, take keepsPlans_setLabel _ _ b⟩
  case setPolicy b => exact ⟨_, rfl, take keepsPlans_setPolicy _ _ b⟩
  case admitLink b => exact ⟨_, rfl, take keepsPlans_admit _ _ b⟩
  case retune b => exact ⟨_, rfl, take keepsPlans_retune _ _ b⟩
  case moveZones b => exact ⟨_, rfl, take keepsPlans_moveZones _ _ b⟩
  case cancelRetune b => exact ⟨_, rfl, take keepsPlans_cancelRetune _ _ b⟩
  case tuneNow b => exact ⟨_, rfl, take keepsPlans_tuneNow _ _ b⟩
  case retire b => exact ⟨_, rfl, take keepsPlans_retire _ _ b⟩
  case discard b => exact ⟨_, rfl, take keepsPlans_discardLink _ _ b⟩
  case seedSpare b => exact ⟨_, rfl, take keepsPlans_seedSpare _ _ b⟩
  case dropSpare b => exact ⟨_, rfl, take keepsPlans_dropSpare _ _ b⟩
  case setPoolThreshold b => exact ⟨_, rfl, take keepsPlans_setPoolThreshold _ _ b⟩
  case answerReferral b => exact ⟨_, rfl, take keepsPlans_answerReferral _ _ b⟩
  case declineReferral b => exact ⟨_, rfl, take keepsPlans_declineReferral _ _ b⟩
  case loadTallyMap b => exact ⟨_, rfl, take keepsPlans_loadTallyMap _ _ b⟩
  case clearSource b => exact ⟨_, rfl, take keepsPlans_clearSource _ _ b⟩
  case bind b => exact ⟨_, rfl, take keepsPlans_bind _ _ b⟩
  case unbind b => exact ⟨_, rfl, take keepsPlans_unbind _ _ b⟩
  case holdLive b => exact ⟨_, rfl, take keepsPlans_holdLive _ _ b⟩
  case suppress b => exact ⟨_, rfl, take keepsPlans_suppress _ _ b⟩
  case defineKey b => exact ⟨_, rfl, take keepsPlans_defineKey _ _ b⟩
  case deleteKey b => exact ⟨_, rfl, take keepsPlans_deleteKey _ _ b⟩
  case defineDest b => exact ⟨_, rfl, take keepsPlans_ownDefineDest _ _ b⟩
  case setTarget b => exact ⟨_, rfl, take keepsPlans_setTarget _ _ b⟩
  case setWatch b => exact ⟨_, rfl, take keepsPlans_setWatch _ _ b⟩
  case deleteDest b => exact ⟨_, rfl, take keepsPlans_ownDeleteDest _ _ b⟩
  case setLast b => exact ⟨_, rfl, take keepsPlans_setLast _ _ b⟩
  case clearTalk b => exact ⟨_, rfl, take keepsPlans_clearTalk _ _ b⟩
  case stageDown b => exact ⟨_, rfl, take keepsPlans_stageDown _ _ b⟩
  case stageListen b => exact ⟨_, rfl, take (fun _ s => keepsPlans_stagePack s _ _ _) _ _ b⟩
  case stageUp b => exact ⟨_, rfl, take (fun _ s => keepsPlans_stagePack s _ _ _) _ _ b⟩
  case commit b => exact ⟨_, rfl, take keepsPlans_ownCommit _ _ b⟩
  case discardPlan b => exact ⟨_, rfl, take keepsPlans_discardPlan _ _ b⟩
  case readSummary b => exact ⟨_, rfl, take keepsPlans_readSummary _ _ b⟩

theorem exec_keepsPlans (c : Instr) (s : State) : ∃ t, exec c s = .next t ∧ KeepsPlans s t := by
  cases h : c.request with
  | none => exact event_keepsPlans h s
  | some r =>
    cases hl : c.lookup with
    | false => exact writer_keepsPlans hl h s
    | true =>
      obtain ⟨α, b, own, reads, e⟩ := lookup_taken hl h
      exact ⟨_, e s, carried_keepsPlans.take (carried_keepsPlans.readsOnly reads) s _ _ b⟩

/-- Settles O59, command by command: a link leaves the plans in the event in which it leaves the plan-eligible
states, a destination that a plan names keeps its kind, and a plan is put in force only after a COMMIT that found no
offence. -/
theorem stepKeepsPlansSound : Obligations.StepKeepsPlansSound := by
  intro s t sound run
  unfold step at run
  split at run
  · rename_i c rest _
    obtain ⟨u, e, keeps⟩ := exec_keepsPlans c (s.setPending rest)
    rw [e] at run
    cases run
    exact keeps.sound sound
  · cases run
    split <;> exact sound

end Sys2Proof.Machine
end

section
/-! What a scan over a table serves first: the place of each number in it (R171, R178). -/

namespace Sys2Proof.Machine

open Sys2Proof

theorem find?_scanOrder (n pos : Nat) (p : Nat → Bool) :
    (scanOrder n pos).find? p
      = ((List.range n).find? fun i => p ((pos + 1 + i) % n)).map fun i => (pos + 1 + i) % n := by
  rw [scanOrder, List.find?_map]
  rfl

/-- The number at the place of `i` in the scan is `i`. -/
theorem scan_at_place {n pos i : Nat} (hpos : pos < n) (hi : i < n) :
    (pos + 1 + (i + (n - 1) - pos) % n) % n = i := by
  rw [Nat.add_mod_mod, show pos + 1 + (i + (n - 1) - pos) = i + n by omega, Nat.add_mod_right,
    Nat.mod_eq_of_lt hi]

/-- The place in the scan of the number at place `j` is `j`. -/
theorem scan_place_at {n pos j : Nat} (hpos : pos < n) (hj : j < n) :
    ((pos + 1 + j) % n + (n - 1) - pos) % n = j := by
  rw [Nat.add_sub_assoc (by omega), Nat.mod_add_mod, show pos + 1 + j + (n - 1 - pos) = j + n by omega,
    Nat.add_mod_right, Nat.mod_eq_of_lt hj]

/-- The scan finds the number that meets `p` and has none that meets it at an earlier place. -/
theorem scan_finds {n pos i : Nat} {p : Nat → Bool} (hpos : pos < n) (hi : i < n) (hp : p i = true)
    (first : ∀ j, j < n → (j + (n - 1) - pos) % n < (i + (n - 1) - pos) % n → p j = false) :
    (scanOrder n pos).find? p = some i := by
  have hn : 0 < n := Nat.zero_lt_of_lt hi
  have found : (List.range n).find? (fun j => p ((pos + 1 + j) % n)) = some ((i + (n - 1) - pos) % n) := by
    rw [List.find?_range_eq_some]
    refine ⟨by rwa [scan_at_place hpos hi], List.mem_range.mpr (Nat.mod_lt _ hn), fun j before => ?_⟩
    have lt : j < n := before.trans (Nat.mod_lt _ hn)
    rw [first _ (Nat.mod_lt _ hn) (by rwa [scan_place_at hpos lt])]
    rfl
  rw [find?_scanOrder, found, Option.map_some, scan_at_place hpos hi]

theorem scan_finds_none {n pos : Nat} {p : Nat → Bool} (no : ∀ i, i < n → p i = false) :
    (scanOrder n pos).find? p = none := by
  rw [find?_scanOrder, Option.map_eq_none_iff, List.find?_eq_none]
  intro i mem
  have hn : 0 < n := Nat.zero_lt_of_lt (List.mem_range.mp mem)
  simp [no _ (Nat.mod_lt _ hn)]

end Sys2Proof.Machine
end

section
/-! What begins on RTX and MTX (O52): R170 to R172, R178. -/

namespace Sys2Proof.Machine

open Sys2Proof

/-! ### The end of an event at the Radio Port -/

/-- The Radio Port's start does not look at the engine's own work. -/
theorem radioKick_congr {s t : State} (same : SameButSweep s t) :
    t.radioKick.links = s.radioKick.links ∧ t.radioKick.radio = s.radioKick.radio := by
  have serve (h : Nat) : (t.serve h).links = (s.serve h).links ∧ (t.serve h).radio = (s.serve h).radio := by
    simp only [State.serve, State.beginTune, State.beginMute, State.beginLamp, State.link, same.links,
      same.radio, same.outside.now, Engine.prof, same.profile]
    split <;> simp [State.setLink, same.links]
  simp only [State.radioKick, State.nextServed, State.link, same.links, same.radio]
  split
  · split
    · simp [State.beginPlan, same.links, same.radio, same.plans]
    · split
      · exact serve _
      · exact ⟨same.links, same.radio⟩
  · exact ⟨same.links, same.radio⟩

/-- What begins on RTX at the end of an event is what begins from the state the event left. -/
theorem finish_radioKick (s0 : State) {s : State} (q : s.quiet) :
    (State.finish s0 s).links = s.radioKick.links ∧ (State.finish s0 s).radio = s.radioKick.radio := by
  obtain ⟨m, e, -⟩ := matrixKick_eq (State.oweRoutes s0 s.engineKick.radioKick)
  rw [State.finish, e]
  exact radioKick_congr (sameButSweep_engineKick q)

/-! ### What begins on RTX (R170 to R172) -/

/-- The rack may be sent to: CTS is asserted and no message is leaving. -/
def State.clearToSend (s : State) : State := s.setRadio { s.radio with cts := true, sending := none }

theorem exec_ctsAsserted {s : State} (live : s.pins.inReset = false) :
    exec .ctsAsserted s = .next (State.finish (s.setRadio { s.radio with cts := true })
      (s.setRadio { s.radio with cts := true })) :=
  congrArg Host.Outcome.next (event_live (s := s.setRadio { s.radio with cts := true }) live _)

theorem exec_radioMessageComplete {s : State} (live : s.pins.inReset = false) :
    exec .radioMessageComplete s = .next (State.finish s (s.setRadio { s.radio with sending := none })) :=
  congrArg Host.Outcome.next (event_live live _)

/-- CTS asserted at an IDLE transmitter, and the end of a message while CTS is asserted, leave the same to the
end of the event. -/
theorem exec_clearToSend {e : Instr} {s : State} (live : s.pins.inReset = false)
    (h : (e = .ctsAsserted ∧ s.radio.sending = none) ∨ (e = .radioMessageComplete ∧ s.radio.cts = true)) :
    ∃ s0, exec e s = .next (State.finish s0 s.clearToSend) := by
  rcases h with ⟨rfl, idle⟩ | ⟨rfl, cts⟩
  · rw [State.clearToSend, ← idle]
    exact ⟨_, exec_ctsAsserted live⟩
  · rw [State.clearToSend, ← cts]
    exact ⟨_, exec_radioMessageComplete live⟩

theorem radioKick_clearToSend_plan {s : State} (owed : s.radio.planOwed = true) :
    s.clearToSend.radioKick = s.clearToSend.beginPlan := by
  simp [State.radioKick, State.clearToSend, owed]

theorem radioKick_clearToSend_serve {s : State} {h : Nat} (owed : s.radio.planOwed = false)
    (next : s.nextServed = some h) : s.clearToSend.radioKick = s.clearToSend.serve h := by
  have next' : s.clearToSend.nextServed = some h := next
  simp only [State.radioKick, next']
  simp [State.clearToSend, owed]

theorem radioKick_clearToSend_none {s : State} (owed : s.radio.planOwed = false)
    (next : s.nextServed = none) : s.clearToSend.radioKick = s.clearToSend := by
  have next' : s.clearToSend.nextServed = none := next
  simp only [State.radioKick, next']
  simp [State.clearToSend, owed]

theorem serve_scan (s : State) (h : Nat) : (s.serve h).radio.scan = h := by
  unfold State.serve
  split <;> rfl

theorem serve_link_other (s : State) {g h : Nat} (other : g ≠ h) : (s.serve h).link g = s.link g := by
  unfold State.serve
  split
  all_goals exact State.link_setLink_other _ _ other

theorem serve_tune {s : State} {h f : Nat} (lt : h < 160) (order : (s.link h).order = some (.tune f)) :
    (s.serve h).radio.sending = some (.tune h f ((s.link h).cls.getD 0))
      ∧ (s.serve h).link h = { s.link h with
          order := none, timer := some ⟨.settle, s.now + s.engine.prof.allowance⟩ } := by
  rw [State.serve, order]
  exact ⟨rfl, State.link_setLink_same _ _ lt⟩

theorem serve_mute {s : State} {h : Nat} (lt : h < 160) (order : (s.link h).order = some .mute) :
    (s.serve h).radio.sending = some (.mute h)
      ∧ (s.serve h).link h = { s.link h with
          order := none, timer := some ⟨.release, s.now + s.engine.prof.allowance⟩ } := by
  rw [State.serve, order]
  exact ⟨rfl, State.link_setLink_same _ _ lt⟩

theorem serve_lamp {s : State} {h : Nat} (lt : h < 160) (order : (s.link h).order = none) :
    (s.serve h).radio.sending = some (.lamp h (s.link h).lamp)
      ∧ (s.serve h).link h = { s.link h with lampOwed := false, lastLamp := (s.link h).lamp } := by
  rw [State.serve, order]
  exact ⟨rfl, State.link_setLink_same _ _ lt⟩

/-- A message of a link begins: its record is served and the rest stays. -/
theorem finish_serves (s0 : State) {s : State} {h : Nat} (q : s.quiet) (owed : s.radio.planOwed = false)
    (next : s.nextServed = some h) :
    (State.finish s0 s.clearToSend).radio = (s.clearToSend.serve h).radio
      ∧ ∀ g, (State.finish s0 s.clearToSend).link g = (s.clearToSend.serve h).link g := by
  obtain ⟨links, radio⟩ := finish_radioKick s0 (s := s.clearToSend) q
  rw [radioKick_clearToSend_serve owed next] at links radio
  exact ⟨radio, fun g => by rw [State.link, links]; rfl⟩

/-- Where no message may begin on RTX, the end of an event leaves the Radio Port and the records. -/
theorem finish_begins_nothing (s0 : State) {s : State} (q : s.quiet) (held : s.radioHeld) :
    (State.finish s0 s).radio = s.radio ∧ (State.finish s0 s).links = s.links
      ∧ (State.finish s0 s).port = s.port ∧ (State.finish s0 s).talk = s.talk :=
  have ends := sameButEnd_finish s0 q
  ⟨finish_held s0 q held, links_finish s0 q held, ends.port, ends.talk⟩

/-! ### What begins on MTX (R154, R178) -/

/-- An event that changes no talking set owes no ROUTE (R154). -/
theorem oweRoutes_same {s0 s : State} (talk : s.talk = s0.talk) : State.oweRoutes s0 s = s := by
  have owed : (s.mtx.owed.mapIdx fun id o => o || s0.talk.talking id != s.talk.talking id) = s.mtx.owed := by
    refine Tab.ext_get false fun id lt => ?_
    rw [Tab.get_mapIdx _ _ _ false, if_pos lt, talk]
    simp
  rw [State.oweRoutes, owed]
  rfl

/-- The last byte of a ROUTE has left MTX. -/
def State.routeLeft (s : State) : State := s.setMtx { s.mtx with sending := none }

theorem exec_routeComplete {s : State} (live : s.pins.inReset = false) :
    exec .routeComplete s = .next (State.finish s s.routeLeft) :=
  congrArg Host.Outcome.next (event_live live _)

/-- While no message may begin on RTX, the end of a ROUTE may begin the next ROUTE and nothing else. -/
theorem finish_routeLeft {s : State} (q : s.quiet) (held : s.radioHeld) :
    State.finish s s.routeLeft = s.routeLeft.engineKick.matrixKick := by
  have same := sameButSweep_engineKick (s := s.routeLeft) q
  rw [State.finish, radioKick_held (by rwa [State.radioHeld, same.radio]), oweRoutes_same (s0 := s) same.talk]

theorem finish_begins_route {s : State} {id : Nat} (q : s.quiet) (held : s.radioHeld)
    (next : (scanOrder 32 s.mtx.scan).find? (fun i => s.mtx.owed.get i false) = some id) :
    (State.finish s s.routeLeft).mtx
      = { s.mtx with owed := s.mtx.owed.set id false, scan := id, sending := some (s.talk.route id) } := by
  have same := sameButSweep_engineKick (s := s.routeLeft) q
  have mtx : s.routeLeft.engineKick.mtx = { s.mtx with sending := none } := same.mtx
  have talk : s.routeLeft.engineKick.talk = s.talk := same.talk
  rw [finish_routeLeft q held]
  simp [State.matrixKick, State.beginRoute, mtx, talk, next]

theorem finish_begins_no_route {s : State} (q : s.quiet) (held : s.radioHeld)
    (next : (scanOrder 32 s.mtx.scan).find? (fun i => s.mtx.owed.get i false) = none) :
    (State.finish s s.routeLeft).mtx = { s.mtx with sending := none } := by
  have mtx : s.routeLeft.engineKick.mtx = { s.mtx with sending := none } :=
    (sameButSweep_engineKick (s := s.routeLeft) q).mtx
  rw [finish_routeLeft q held]
  simp [State.matrixKick, mtx, next]

/-- A ROUTE names the talking keys of its destination, oldest grant first. -/
theorem Talk.route_keys_fst {t : Talk} {id : Nat} {d : Dest} (dest : t.dest id = some d)
    (defined : ∀ k, k ∈ d.talking → (t.key k).isSome = true) : (t.route id).keys.map (·.1) = d.talking := by
  have talking : t.talking id = d.talking := by rw [Talk.talking, dest]
  show List.map (·.1) ((t.talking id).filterMap fun k => (t.key k).map fun x => (k, x.origin)) = d.talking
  rw [talking, List.map_filterMap]
  refine (List.filterMap_congr fun k mem => ?_).trans List.filterMap_some
  obtain ⟨x, key⟩ := Option.isSome_iff_exists.mp (defined k mem)
  simp [key]

/-- A ROUTE gives each key the origin of its definition. -/
theorem Talk.origin_of_mem_route {t : Talk} {id k : Nat} {o : Origin} (mem : (k, o) ∈ (t.route id).keys) :
    ∃ y, t.key k = some y ∧ y.origin = o := by
  obtain ⟨j, -, named⟩ := List.mem_filterMap.mp mem
  obtain ⟨y, key, pair⟩ := Option.map_eq_some_iff.mp named
  cases pair
  exact ⟨y, key, rfl⟩

theorem Talk.route_undefined {t : Talk} {id : Nat} (dest : t.dest id = none) : (t.route id).keys = [] := by
  simp [Talk.route, Talk.talking, dest]

/-- Settles O52: the end of the event begins what the state it finds owes, a PLAN or the record the scan reaches
first, and nothing where a message leaves or CTS is withdrawn; the end of a ROUTE begins the next one in its scan. -/
theorem transmittersBegin : Obligations.TransmittersBegin := by
  refine ⟨fun e s live quiet free => ?_, fun s live quiet => ⟨fun busy => ?_, fun withdrawn => ?_⟩,
    fun _ => rfl, fun s live quiet held => ?_⟩
  · obtain ⟨s0, run⟩ := exec_clearToSend live free
    have quiet' : s.clearToSend.quiet := quiet
    have ends := sameButEnd_finish s0 quiet'
    refine ⟨fun owed => ⟨_, run, ?_⟩, fun h owed scan lt sendable first => ⟨_, run, ?_⟩,
      fun owed silent => ⟨_, run, ?_⟩⟩
    · obtain ⟨links, radio⟩ := finish_radioKick s0 quiet'
      rw [radioKick_clearToSend_plan owed] at links radio
      rw [radio]
      exact ⟨rfl, rfl, rfl, rfl, links, ends.port, ends.talk⟩
    · obtain ⟨radio, link⟩ := finish_serves s0 quiet owed (scan_finds scan lt sendable first)
      rw [radio, link h]
      exact ⟨serve_scan _ h, by rw [(sameButSending_serve _ h).cts]; rfl,
        fun g other => (link g).trans (serve_link_other _ other), ends.port, ends.talk, ends.plans,
        fun _ => serve_tune (s := s.clearToSend) lt, serve_mute (s := s.clearToSend) lt,
        serve_lamp (s := s.clearToSend) lt⟩
    · obtain ⟨links, radio⟩ := finish_radioKick s0 quiet'
      rw [radioKick_clearToSend_none owed (scan_finds_none silent)] at links radio
      exact ⟨radio, links⟩
  · exact ⟨_, exec_ctsAsserted live, finish_begins_nothing _ quiet (.inl busy)⟩
  · exact ⟨_, exec_radioMessageComplete live, finish_begins_nothing _ quiet (.inr withdrawn)⟩
  · have run := exec_routeComplete live
    obtain ⟨-, links, port, talk⟩ := finish_begins_nothing s (s := s.routeLeft) quiet held
    refine ⟨fun id scan lt owed first => ⟨_, s.talk.route id, run, ?_⟩, fun silent => ⟨_, run, ?_⟩⟩
    · rw [finish_begins_route quiet held (scan_finds scan lt owed first)]
      exact ⟨rfl, rfl, rfl, rfl, fun _ => Talk.route_keys_fst, fun _ _ => Talk.origin_of_mem_route,
        Talk.route_undefined, links, talk, port⟩
    · exact ⟨finish_begins_no_route quiet held (scan_finds_none silent), links, talk, port⟩

end Sys2Proof.Machine
end

section
/-! How the Control Port judges a request before its owner sees it, what a collect presents and consumes, and
READ SUMMARY (R180 to R185, R190, R192). -/

namespace Sys2Proof.Machine

open Sys2Proof

/-! ### Requests judged at the port (R180, R181) -/

theorem take_owed {α : Type} {s : State} (listening : s.listening) (owed : s.port.owed.isSome = true)
    (code : Nat) (always : Bool) (b : ReqBody α) (own : α → State → Answer) :
    s.take code always b own = s.portFault := by
  rw [State.take, transaction_listening listening, if_pos owed]

theorem take_badLength {α : Type} {s : State} (free : s.free) {always : Bool}
    (known : s.configured = true ∨ always = true) (code : Nat) (own : α → State → Answer) :
    s.take code always .badLength own = s.respond code .badArgument .lengthField := by
  rcases known with configured | rfl
  · simp [State.take, transaction_listening free.1, free.2, configured]
  · simp [State.take, transaction_listening free.1, free.2]

/-- While a response is owed, a request of any code is discarded (R181). -/
theorem exec_request_owed {c : Instr} {n : Nat} {ok : Bool} {s : State} (request : c.request = some (n, ok))
    (listening : s.listening) (owed : s.port.owed.isSome = true) : exec c s = .next s.portFault := by
  rcases request_taken request with rfl | ⟨α, b, own, -, taken⟩
  · exact congrArg Host.Outcome.next ((transaction_listening listening _).trans (if_pos owed))
  · rw [taken s, take_owed listening owed]

theorem exec_unrecognisedRequest {s : State} (free : s.free) (n : Nat) :
    exec (.unrecognisedRequest n) s = .next (s.respond n .unknownRequest .empty) := by
  refine congrArg Host.Outcome.next ((transaction_listening free.1 _).trans (if_neg ?_))
  simp [free.2]

/-- A wrong length is judged once the code is known and the part may take it (R8, R181). -/
theorem exec_badLength {c : Instr} {n : Nat} {s : State} (request : c.request = some (n, false))
    (free : s.free) (known : s.configured = true ∨ n = 1 ∨ n = 48) :
    exec c s = .next (s.respond n .badArgument .lengthField) := by
  rcases request_taken request with rfl | ⟨α, b, own, length, taken⟩
  · cases request
  · cases b with
    | args a => cases length
    | badLength =>
      have always : s.configured = true ∨ (n == 1 || n == 48) = true := by simpa using known
      rw [taken s, take_badLength free always]

/-- Settles O7: R181 names its conditions in the order in which `State.take` looks for them. -/
theorem requestsAreScreened : Obligations.RequestsAreScreened :=
  ⟨fun _ _ _ _ request listening owed => exec_request_owed request listening owed,
    fun n _ free => exec_unrecognisedRequest free n,
    fun _ _ _ request free known => exec_badLength request free known,
    fun _ _ _ listening => congrArg Host.Outcome.next (transaction_listening listening _)⟩

/-! ### Responses owed (R181, R182, R185) -/

/-- A taken request leaves some state, and then a response under its own code. -/
theorem exec_request_responds {c : Instr} {n : Nat} {ok : Bool} {s : State}
    (request : c.request = some (n, ok)) (free : s.free) :
    ∃ u st body, exec c s = .next (State.respond u n st body) := by
  rcases request_taken request with rfl | ⟨α, b, own, -, taken⟩
  · exact ⟨s, _, _, exec_unrecognisedRequest free n⟩
  · rw [taken s]
    rcases take_cases free n (n == 1 || n == 48) b own with ⟨st, body, e⟩ | ⟨a, e⟩
    · exact ⟨s, st, body, congrArg Host.Outcome.next e⟩
    · exact ⟨_, _, _, congrArg Host.Outcome.next e⟩

@[simp] theorem State.respond_ready (s : State) (code : Nat) (st : Status) (body : RespBody) :
    (s.respond code st body).port.ready = false := rfl

@[simp] theorem State.respond_attention (s : State) (code : Nat) (st : Status) (body : RespBody) :
    (s.respond code st body).port.attention = true := rfl

@[simp] theorem State.respond_buffer (s : State) (code : Nat) (st : Status) (body : RespBody) :
    (s.respond code st body).port.buffer = [] := rfl

/-- Settles O8: whatever the owner left, the response is owed on top of it, and the pins follow from that. -/
theorem everyTakenRequestAnswers : Obligations.EveryTakenRequestAnswers := by
  intro c n ok s request free
  obtain ⟨u, st, body, answered⟩ := exec_request_responds request free
  exact ⟨_, st, body, answered, u.respond_owed n st body, u.respond_ready n st body,
    u.respond_attention n st body, u.respond_buffer n st body⟩

/-! ### Collects (R183, R184, R192) -/

theorem Port.choose_owed {p : Port} {r : Response} (owed : p.owed = some r) : p.choose = .response r := by
  rw [Port.choose, owed]

theorem Port.choose_notice {p : Port} {n : Notice} {rest : List Notice} (owed : p.owed = none)
    (notices : p.notices = n :: rest) : p.choose = .notice n := by
  rw [Port.choose, owed, notices]

theorem Port.choose_empty {p : Port} (owed : p.owed = none) (notices : p.notices = []) :
    p.choose = .empty := by
  rw [Port.choose, owed, notices]

theorem Item.bytes_length (i : Item) : i.bytes.length = 2 + i.contents.length := by
  simp [Item.bytes, byte]
  omega

/-- A consumed item leaves the place it was taken from, and the other place keeps what it holds (R184). -/
theorem Port.consume_eq (p : Port) (i : Item) :
    p.consume i = { p with
      owed := (match i with | .response _ => none | _ => p.owed)
      notices := (match i with | .notice _ => p.notices.tail | _ => p.notices) } := by
  cases i <;> rfl

theorem Port.collected_whole {p : Port} {i : Item} {clocked : Nat} (whole : i.bytes.length ≤ clocked) :
    p.collected i clocked = (p.consume i).closed := if_pos whole

theorem Port.collected_part {p : Port} {i : Item} {clocked : Nat} (part : clocked < i.bytes.length) :
    p.collected i clocked = { p.closed with portError := true } := if_neg (Nat.not_le.mpr part)

/-- However much of the item was clocked, its collect is over. -/
theorem Port.collected_transaction (p : Port) (i : Item) (clocked : Nat) :
    (p.collected i clocked).transaction = .none := by
  unfold Port.collected
  split <;> rfl

theorem exec_collect {s : State} (live : s.pins.inReset = false) (rose : s.pins.selHeld = false)
    (idle : s.port.transaction ≠ .collect) : exec .collect s = .next (s.setPort s.port.present) := by
  refine congrArg Host.Outcome.next ((event_live live _).trans (if_neg ?_))
  simp [rose, idle]

theorem exec_collectEnd {s : State} {i : Item} (live : s.pins.inReset = false)
    (rose : s.pins.selHeld = false) (presented : s.port.presented = some i) (clocked : Nat) :
    exec (.collectEnd clocked) s = .next (s.setPort (s.port.collected i clocked)) := by
  refine congrArg Host.Outcome.next ((event_live live _).trans ?_)
  simp [State.selRises, rose, presented]

/-- SDO carries the presented item while SEL# is low (R183, R192). -/
theorem State.sdo_presented {s : State} {i : Item} (live : s.pins.inReset = false)
    (under_way : s.port.transaction ≠ .none) (presented : s.port.presented = some i) (n : Nat) :
    s.sdo n = .driven (i.sdo n) := by
  simp [State.sdo, State.selLow, live, under_way, presented]

theorem State.sdo_selHigh {s : State} (rose : s.pins.selHeld = false)
    (ended : s.port.transaction = .none) (n : Nat) : s.sdo n = .highZ := by
  simp [State.sdo, State.selLow, rose, ended]

/-- Settles O10: the choice is that of `Port.choose`, and an item is clocked out whole once its kind and length
bytes and its contents are. -/
theorem collectsPresentAndConsume : Obligations.CollectsPresentAndConsume := by
  refine ⟨fun s live rose idle => ?_, fun s i clocked live rose presented => ?_⟩
  · refine ⟨s.port.choose, _, exec_collect live rose idle, rfl, fun n => ?_,
      fun _ owed => Port.choose_owed owed, fun _ _ owed notices => Port.choose_notice owed notices,
      fun owed notices => Port.choose_empty owed notices⟩
    exact State.sdo_presented (s := s.setPort s.port.present) live nofun rfl n
  · have run := exec_collectEnd live rose presented clocked
    have length := i.bytes_length
    refine ⟨fun whole => ?_, fun part => ?_, fun t ended n => ?_⟩
    · rw [run, Port.collected_whole (length.trans_le whole), Port.consume_eq]
      rfl
    · rw [run, Port.collected_part (part.trans_eq length.symm)]
      rfl
    · obtain rfl := Host.Outcome.next.inj (run.symm.trans ended)
      exact State.sdo_selHigh (s := s.setPort (s.port.collected i clocked)) rose
        (s.port.collected_transaction i clocked) n

/-! ### READ SUMMARY (R190) -/

theorem LinkState.all_code (st : LinkState) : LinkState.all[st.code]? = some st := by
  cases st <;> rfl

/-- Table 2-2 lists every state once. -/
theorem LinkState.all_once (st : LinkState) :
    (LinkState.all.map fun q => if st == q then 1 else 0).sum = 1 := by
  cases st <;> rfl

/-- Every record is counted under its own state and no other. -/
theorem sum_countP_state (l : List Link) :
    (LinkState.all.map fun st => l.countP fun x => x.state == st).sum = l.length := by
  induction l with
  | nil => rfl
  | cons x xs ih =>
    simp only [List.countP_cons, List.sum_map_add, ih, LinkState.all_once, List.length_cons]

theorem State.linkCount_eq (s : State) (st : LinkState) :
    s.linkCount st = s.links.rows.countP fun l => l.state == st := List.countP_eq_length_filter.symm

theorem State.linkCounts_sum (s : State) : (LinkState.all.map s.linkCount).sum = 160 := by
  rw [funext s.linkCount_eq, sum_countP_state, s.links.size]

/-- A spare is CLEAR or another one. -/
theorem Pool.clear_add_other (p : Pool) :
    p.clearCount + p.slots.rows.countP (fun x => x.any fun sp => sp.status != .clear) = p.spares.length := by
  rw [Pool.clearCount, Pool.count_eq, Pool.spares_length]
  induction p.slots.rows with
  | nil => rfl
  | cons x xs ih =>
    simp only [List.countP_cons]
    cases x with
    | none => simpa using ih
    | some sp => cases h : sp.status <;> simp [h] <;> omega

theorem exec_readSummary {s : State} (free : s.free) :
    exec (.readSummary (.args ())) s = .next { s with port := { s.port.ended with
      owed := some ⟨48, .ok, .summary s.summary⟩, portError := false, noticesLost := false } } :=
  congrArg Host.Outcome.next (take_free free 48 () ownReadSummary)

theorem State.summary_of_configured {s : State} (configured : s.configured = true) :
    s.summary = s.summaryConfigured := if_pos configured

theorem State.summary_of_unconfigured {s : State} (unconfigured : s.configured = false) :
    s.summary = s.summaryUnconfigured := if_neg (by simp [unconfigured])

/-- The flags and pins that both forms of the summary report (R190). -/
theorem State.summary_flags (s : State) :
    s.summary.portError = s.port.portError ∧ s.summary.noticesLost = s.port.noticesLost
      ∧ s.summary.cts = s.radio.cts ∧ s.summary.configured = s.configured := by
  cases configured : s.configured with
  | true =>
    rw [State.summary_of_configured configured]
    exact ⟨rfl, rfl, rfl, rfl⟩
  | false =>
    rw [State.summary_of_unconfigured configured]
    exact ⟨rfl, rfl, rfl, rfl⟩

/-- Settles O11: the report is `State.summary`, taken before the two flags are cleared. -/
theorem readSummaryReports : Obligations.ReadSummaryReports := by
  intro s free
  obtain ⟨portError, noticesLost, cts, configuredFlag⟩ := s.summary_flags
  refine ⟨s.summary, exec_readSummary free, portError, noticesLost, cts, configuredFlag,
    fun configured => ?_, fun unconfigured => ?_⟩
  · rw [State.summary_of_configured configured]
    have other := s.pool.clear_add_other
    have other_eq : s.summaryConfigured.otherSpares
        = s.pool.slots.rows.countP fun x => x.any fun sp => sp.status != .clear :=
      Nat.sub_eq_of_eq_add' other.symm
    have counted (st : LinkState) : s.summaryConfigured.links[st.code]?
        = some (s.links.rows.countP fun l => l.state == st) := by
      rw [State.summaryConfigured, List.getElem?_map, LinkState.all_code, Option.map_some, s.linkCount_eq]
    exact ⟨rfl, rfl, s.linkCounts_sum, counted, rfl, s.pool.count_eq .clear, other_eq,
      (congrArg (s.pool.clearCount + ·) other_eq).trans other, rfl, rfl, rfl, rfl⟩
  · rw [State.summary_of_unconfigured unconfigured]
    exact ⟨rfl, rfl, rfl, rfl, rfl, rfl, rfl, rfl, rfl⟩

end Sys2Proof.Machine
end

section
/-! The bits of bytes on SDI and on the serial lines read back, the check byte, and the lengths of reports and
line messages (R180, R192, R193, Tables 11-4 and 11-5). -/

namespace Sys2Proof.Machine

open Sys2Proof

/-! ### Bits and bytes (R180) -/

/-- The `k` most significant bits of a word, read as a number, are its quotient by the weight of the rest. -/
theorem foldl_getMsbD {w : Nat} (x : BitVec w) {k : Nat} (h : k ≤ w) :
    ((List.range k).map fun i => x.getMsbD i).foldl (fun n b => 2 * n + b.toNat) 0
      = x.toNat / 2 ^ (w - k) := by
  induction k with
  | zero => exact (Nat.div_eq_of_lt x.isLt).symm
  | succ k ih =>
    have weight : w - k = w - 1 - k + 1 := by omega
    have bit : x.getMsbD k = x.toNat.testBit (w - 1 - k) := by
      simp [BitVec.getMsbD_eq_getLsbD, BitVec.testBit_toNat, Nat.lt_of_succ_le h]
    rw [List.range_succ, List.map_append, List.foldl_append, ih (Nat.le_of_succ_le h)]
    simp only [List.map_cons, List.map_nil, List.foldl_cons, List.foldl_nil]
    rw [bit, Nat.toNat_testBit, weight, Nat.pow_succ, ← Nat.div_div_eq_div_mul, Nat.div_add_mod,
      Nat.sub_sub, Nat.add_comm 1 k]

@[simp] theorem byteOfBits_controlBits (b : Byte) : byteOfBits (controlBits b) = b := by
  rw [byteOfBits, controlBits, foldl_getMsbD b le_rfl, Nat.sub_self, Nat.pow_zero, Nat.div_one]
  exact BitVec.eq_of_toNat_eq (Nat.mod_eq_of_lt b.isLt)

theorem clockedBytes_short {l : List Bool} (h : l.length < 8) : clockedBytes l = ([], l.length) := by
  refine clockedBytes.eq_2 l ?_
  rintro _ _ _ _ _ _ _ _ _ rfl
  simp only [List.length_cons] at h
  omega

/-- Eight bits complete a byte. -/
theorem clockedBytes_controlBits (b : Byte) (l : List Bool) :
    clockedBytes (controlBits b ++ l) = (b :: (clockedBytes l).1, (clockedBytes l).2) := by
  have first : clockedBytes (controlBits b ++ l)
      = (byteOfBits (controlBits b) :: (clockedBytes l).1, (clockedBytes l).2) := rfl
  rw [first, byteOfBits_controlBits]

theorem clockedBytes_flatMap (m : List Byte) {rest : List Bool} (h : rest.length < 8) :
    clockedBytes (m.flatMap controlBits ++ rest) = (m, rest.length) := by
  induction m with
  | nil => exact clockedBytes_short h
  | cons b m ih => rw [List.flatMap_cons, List.append_assoc, clockedBytes_controlBits, ih]

/-! ### Bytes on a serial line (R193) -/

theorem reverse_controlBits (b : Byte) :
    (controlBits b).reverse = (List.range 8).map fun i => b.getLsbD i := by
  simp [controlBits, List.range_succ, BitVec.getMsbD_eq_getLsbD]

theorem mapM_value_data (l : List Bool) : (l.map LineBit.data).mapM LineBit.value = some l := by
  rw [List.mapM_map]
  exact List.mapM_pure.trans (congrArg some (List.map_id' l))

@[simp] theorem serialByte_length (b : Byte) : (serialByte b).length = 10 := rfl

theorem serialByte_data (b : Byte) {i : Nat} (h : i < 8) :
    (serialByte b)[i + 1]? = some (.data (b.getLsbD i)) := by
  simp [serialByte, List.getElem?_append, h]

/-- The data bits of a serial byte are those of SDI the other way round. -/
theorem serialByte_eq (b : Byte) :
    serialByte b = .start :: ((controlBits b).reverse.map LineBit.data ++ [.stop]) := by
  rw [reverse_controlBits, List.map_map]
  rfl

theorem serialByteOf_serialByte (b : Byte) : serialByteOf (serialByte b) = some b := by
  have eight : ((controlBits b).reverse.map LineBit.data).length = 8 := rfl
  rw [serialByte_eq, serialByteOf, List.drop_left' eight, if_pos rfl, List.take_left' eight, mapM_value_data,
    Option.map_some, List.reverse_reverse, byteOfBits_controlBits]

theorem serialBits_length (m : List Byte) : (serialBits m).length = 10 * m.length := by
  simp [serialBits, List.length_flatMap, Nat.mul_comm]

/-- Behind the first byte of a message stand the bit times of the others. -/
theorem drop_serialBits_cons (b : Byte) (m : List Byte) (i : Nat) :
    (serialBits (b :: m)).drop (10 * (i + 1)) = (serialBits m).drop (10 * i) := by
  rw [serialBits, List.flatMap_cons, Nat.mul_succ, Nat.add_comm, ← List.drop_drop,
    List.drop_left' (serialByte_length b), serialBits]

theorem take_serialBits_cons (b : Byte) (m : List Byte) :
    (serialBits (b :: m)).take 10 = serialByte b := by
  rw [serialBits, List.flatMap_cons, List.take_left' (serialByte_length b)]

theorem mapM_chunks_serialBits (m : List Byte) :
    ((List.range m.length).mapM fun i => serialByteOf (((serialBits m).drop (10 * i)).take 10)) = some m := by
  induction m with
  | nil => rfl
  | cons b m ih =>
    have others : ((fun i => serialByteOf (((serialBits (b :: m)).drop (10 * i)).take 10)) ∘ Nat.succ)
        = fun i => serialByteOf (((serialBits m).drop (10 * i)).take 10) :=
      funext fun i => by rw [Function.comp_apply, Nat.succ_eq_add_one, drop_serialBits_cons]
    rw [List.length_cons, List.range_succ_eq_map, List.mapM_cons, List.mapM_map, others, ih, Nat.mul_zero,
      List.drop_zero, take_serialBits_cons, serialByteOf_serialByte]
    rfl

theorem serialBytesOf_serialBits (m : List Byte) : serialBytesOf (serialBits m) = some m := by
  rw [serialBytesOf, serialBits_length, if_pos (Nat.mul_mod_right 10 _), Nat.mul_div_cancel_left _ (by decide),
    mapM_chunks_serialBits]

/-! ### Lengths of fields (Table 11-2) -/

@[simp] theorem byte_length (n : Nat) : (byte n).length = 1 := rfl

@[simp] theorem word_length (n : Nat) : (word n).length = 2 := rfl

@[simp] theorem triple_length (n : Nat) : (triple n).length = 3 := rfl

@[simp] theorem optField_length (n : Option Nat) : (optField n).length = 1 := rfl

@[simp] theorem optStep_length (n : Option Nat) : (optStep n).length = 3 := rfl

@[simp] theorem flag_length (b : Bool) : (flag b).length = 1 := rfl

@[simp] theorem ms2_length (n : Option Nat) : (ms2 n).length = 2 := rfl

@[simp] theorem Binding.bytes_length (b : Binding) : b.bytes.length = 2 := rfl

@[simp] theorem Pack.bytes_length (e : Pack) : e.bytes.length = 4 := rfl

@[simp] theorem Origin.bytes_length (o : Origin) : o.bytes.length = 3 := by
  cases o <;> rfl

/-- A list whose members take `k` bytes each, after its count. -/
theorem counted_length {α : Type} {f : α → List Byte} {k : Nat} (width : ∀ x, (f x).length = k) (l : List α) :
    (counted f l).length = 1 + k * l.length := by
  simp [counted, List.length_flatMap, width, Nat.mul_comm]

/-! ### Lengths of messages (Tables 11-4 and 11-5) -/

theorem flatMap_byte_length (l : List Nat) : (l.flatMap byte).length = l.length := by
  simp [List.length_flatMap]

/-- A label takes eight bytes in the report, whatever its length. -/
theorem labelPadded_length (l : List Nat) :
    (((l ++ List.replicate 8 0).take 8).flatMap byte).length = 8 := by
  rw [flatMap_byte_length, List.length_take, List.length_append, List.length_replicate]
  omega

/-- The order and the two places for bindings take as many bytes where there is none (Table 11-4). -/
theorem LinkReport.bytes_length (r : LinkReport) : r.bytes.length = 40 := by
  unfold LinkReport.bytes
  simp only [List.length_append, labelPadded_length, byte_length, optField_length, optStep_length,
    flag_length, ms2_length, List.length_cons, List.length_nil]
  split
  all_goals split
  all_goals split
  all_goals rfl

/-- The check byte makes the sum 0 (R193). -/
theorem lineMessage_sum (type : Nat) (body : List Byte) :
    (lineMessage type body).foldl (· + ·) 0 = 0 := by
  rw [lineMessage, List.foldl_append]
  exact add_neg_cancel _

@[simp] theorem lineMessage_length (type : Nat) (body : List Byte) :
    (lineMessage type body).length = body.length + 4 := by
  simp [lineMessage]
  omega

theorem RackMsg.tune_length (h f c : Nat) : (RackMsg.tune h f c).bytes.length = 9 := by
  simp [RackMsg.bytes]

theorem RackMsg.plan_length (n : BitVec 16) (p : Plan) :
    (RackMsg.plan n p).bytes.length = 19 + 4 * p.packs.length := by
  have down : (p.down.rows.flatMap optField).length = 12 := by simp [List.length_flatMap, p.down.size]
  simp only [RackMsg.bytes, lineMessage_length, List.length_append, word_length, down,
    counted_length Pack.bytes_length]
  omega

theorem Route.bytes_length (r : Route) : r.bytes.length = 6 + 4 * r.keys.length := by
  have key (x : Nat × Origin) : (byte x.1 ++ x.2.bytes).length = 4 := by simp
  simp only [Route.bytes, lineMessage_length, List.length_append, byte_length, counted_length key]
  omega

/-- Settles O20: a byte reads back because its bits, most significant first, are the number they spell, and a
message because ten bit times stand for each of its bytes. -/
theorem messageLayouts : Obligations.MessageLayouts :=
  ⟨LinkReport.bytes_length, fun type body => ⟨lineMessage_sum type body, lineMessage_length type body⟩,
    RackMsg.tune_length, RackMsg.plan_length, Route.bytes_length,
    fun b => ⟨serialByte_length b, rfl, rfl, fun _ lt => serialByte_data b lt, serialByteOf_serialByte b⟩,
    serialBytesOf_serialBits, fun m _ short => clockedBytes_flatMap m short⟩

end Sys2Proof.Machine
end

section
/-! RESET# low and its rising edge (R180, R194): what passes the three gates at the part's inputs while RESET#
is low, and what becomes of a transaction found under way when it rises. -/

namespace Sys2Proof.Machine

open Sys2Proof

/-! ### The gates at the inputs (R9, R180, R194) -/

theorem event_inReset {s : State} (low : s.pins.inReset = true) (k : State → State) : s.event k = s :=
  if_pos low

theorem outside_inReset {s : State} (low : s.pins.inReset = true) (k : State → State) :
    s.outside k = s := by
  simp [State.outside, low]

theorem transaction_inReset {s : State} (low : s.pins.inReset = true) (k : State → State) :
    s.transaction k = s := if_pos low

/-- A transaction left from a reset is over, and nothing else has come of it (R180). -/
theorem transaction_selHeld {s : State} (left_over : s.pins = ⟨false, true⟩) (k : State → State) :
    s.transaction k = s.setPins ⟨false, false⟩ := by
  simp [State.transaction, left_over]

/-- Every request, of a known code or not, comes in by a transaction at the Control Port. -/
theorem request_by_transaction {c : Instr} {n : Nat} {ok : Bool} (request : c.request = some (n, ok)) :
    ∃ k, ∀ s, exec c s = .next (s.transaction k) := by
  rcases request_taken request with rfl | ⟨α, b, own, -, taken⟩
  · exact ⟨_, fun _ => rfl⟩
  · exact ⟨_, taken⟩

/-- A command passes one of the three gates at the inputs, each of them shut while RESET# is low. -/
def Gated (c : Instr) : Prop :=
  ∃ k, (∀ s, exec c s = .next (s.transaction k)) ∨ (∀ s, exec c s = .next (s.event k))
    ∨ ∀ s, exec c s = .next (s.outside k)

/-- Apart from requests, a transaction badly framed ends at the port, the frame mark is from another party, and
every other command but those of the RESET# and CTS pins is an event. -/
theorem gated_of_not_request {c : Instr} (request : c.request = none) (pin : c.onPin = false) : Gated c := by
  cases c
  all_goals cases request
  all_goals cases pin
  case framingError => exact ⟨_, .inl fun _ => rfl⟩
  case frameMark => exact ⟨_, .inr (.inr fun _ => rfl)⟩
  all_goals exact ⟨_, .inr (.inl fun _ => rfl)⟩

theorem gated_of_not_onPin {c : Instr} (pin : c.onPin = false) : Gated c := by
  cases request : c.request with
  | none => exact gated_of_not_request request pin
  | some r =>
    obtain ⟨k, taken⟩ := request_by_transaction request
    exact ⟨k, .inl taken⟩

theorem Gated.exec_inReset {c : Instr} (gated : Gated c) {s : State} (low : s.pins.inReset = true) :
    exec c s = .next s := by
  obtain ⟨k, run | run | run⟩ := gated
  · rw [run s, transaction_inReset low]
  · rw [run s, event_inReset low]
  · rw [run s, outside_inReset low]

/-! ### The pins themselves (R194) -/

theorem exec_hardwareReset (s : State) : exec .hardwareReset s = .next s.underReset := rfl

theorem exec_ctsAsserted_inReset {s : State} (low : s.pins.inReset = true) :
    exec .ctsAsserted s = .next (s.setRadio { s.radio with cts := true }) :=
  congrArg Host.Outcome.next (event_inReset (s := s.setRadio { s.radio with cts := true }) low _)

theorem exec_resetRisingEdge {s : State} (low : s.pins.inReset = true) (selLow : Bool) :
    exec (.resetRisingEdge selLow) s = .next (s.setPins ⟨false, selLow⟩) :=
  congrArg Host.Outcome.next (if_pos low)

theorem State.sdo_inReset {s : State} (low : s.pins.inReset = true) (n : Nat) : s.sdo n = .highZ := by
  simp [State.sdo, low]

/-- A reset that ends with SEL# high leaves no transaction under way, so SDO stays high-impedance. -/
theorem sdo_after_reset {s u : State} (rises : exec (.resetRisingEdge false) s.underReset = .next u) (n : Nat) :
    u.sdo n = .highZ := by
  obtain rfl := Host.Outcome.next.inj ((exec_resetRisingEdge (s := s.underReset) rfl false).symm.trans rises)
  exact State.sdo_selHigh (s := s.underReset.setPins ⟨false, false⟩) rfl rfl n

/-! ### The statement -/

/-- Settles O5: a reset writes `State.reset` into every block, and all the gates at the inputs are shut until
RESET# rises; only then is a transaction left over dropped at the first of them. -/
theorem resetPinActs : Obligations.ResetPinActs := by
  refine ⟨fun s => ?_, fun s selLow low => exec_resetRisingEdge low selLow,
    fun s c n ok left_over request => ?_,
    fun c s low pin => (gated_of_not_onPin pin).exec_inReset low, fun s low => exec_ctsAsserted_inReset low⟩
  · exact ⟨s.underReset, exec_hardwareReset s, rfl, rfl, rfl, rfl, rfl, rfl, rfl, rfl, rfl, rfl, rfl, rfl, rfl,
      rfl, rfl, rfl, rfl, State.sdo_inReset rfl, fun _ rises => sdo_after_reset rises⟩
  · obtain ⟨k, run⟩ := request_by_transaction request
    rw [run s, transaction_selHeld left_over]
    rfl

end Sys2Proof.Machine
end

section
/-! The step itself (7.5): the command at the front of the queue (O1), or the timebase (O2). -/

namespace Sys2Proof.Machine

open Sys2Proof

theorem step_of_waiting {s : State} {c : Instr} {rest : List Instr} (waiting : s.pending = c :: rest) :
    step s = exec c (s.setPending rest) := by
  simp only [step, waiting]

/-- Settles O1: writing the queue's rest over the whole queue leaves no trace of the command taken. -/
theorem stepTakesFront : Obligations.StepTakesFront := fun c rest s =>
  step_of_waiting (s := s.setPending (c :: rest)) rfl

theorem step_of_idle {s : State} (idle : s.pending = []) :
    step s = .next (if s.pins.inReset then s else s.setNow (s.now + 1)) := by
  simp only [step, idle]

/-- Settles O2, by the level of RESET#. -/
theorem idleStepTicks : Obligations.IdleStepTicks := by
  refine fun s idle => ⟨fun high => ?_, fun low => ?_⟩
  · rw [step_of_idle idle, high]
    rfl
  · rw [step_of_idle idle, low]
    rfl

end Sys2Proof.Machine
end
